-- ==== Sys2Proof/Word.lean ====
section
/-! DEFINITION. The word types and the plain data types the spec's rules speak of: bytes, words, line levels, bit
values, colours and pulse descriptors (00_scope.md R12, R13; 30_encoding.md R90, R91). -/

namespace Sys2Proof

/-- `u8` of R13. -/
abbrev Byte := BitVec 8

/-- `u32` of R13: a register value, a DATA word, a system-memory address. -/
abbrev Word := BitVec 32

/-- The level of the output line, L or H (00_scope.md R15). -/
inductive Level where
  | low
  | high
  deriving DecidableEq, Repr

/-- The logical value of one protocol bit (30_encoding.md R90). -/
inductive BitValue where
  | zero
  | one
  deriving DecidableEq, Repr

/-- A colour, in the source's field order r, g, b (10_state.md R36). -/
structure Color where
  r : Byte
  g : Byte
  b : Byte
  deriving DecidableEq, Repr, Inhabited

/-- A pulse descriptor (30_encoding.md R91): level 1 for `length1` ticks, then level 2 for `length2` ticks.
Lengths are the `u15` fields of R92. -/
structure Descriptor where
  level1 : Bool
  length1 : BitVec 15
  level2 : Bool
  length2 : BitVec 15
  deriving DecidableEq, Repr

/-- The host's four palette colours (00_scope.md R11, 60_exceptions.md R323). -/
structure Palette where
  red : Color
  green : Color
  blue : Color
  off : Color
  deriving DecidableEq, Repr, Inhabited

/-- Where an interrupt line goes (60_exceptions.md R313): the host's line, its priority, and whether the controller
takes an edge or a level. -/
structure IrqRoute where
  line : Nat
  priority : Nat
  edge : Bool
  deriving DecidableEq, Repr, Inhabited

/-- A stretch of system memory that accepts DMA: bytes `base .. base + len - 1` (20_memory.md R66). -/
structure Span where
  base : Nat
  len : Nat
  deriving DecidableEq, Repr, Inhabited

end Sys2Proof
end

