-- ==== Sys2Proof/Syntax.lean ====
section
/-! DEFINITION. The instructions: one constructor for each row of spec/opcode_table.json, 18 bus accesses and 8
commands (30_encoding.md R98 to R104). -/

namespace Sys2Proof

/-- What a command word asks for (30_encoding.md R98 to R101). The operands are the fields of R100. -/
inductive Command where
  | nop
  | encBit (bit : BitValue)
  | encPair (pair : BitVec 2)
  | encByte (byte : Byte)
  | build
  | start
  /-- OP = 0x6 or 0x7: bit 0 of OP. -/
  | rsvd67 (op : BitVec 1)
  /-- OP = 0x8 to 0xF: bits 2:0 of OP. -/
  | rsvd8F (op : BitVec 3)
  deriving DecidableEq, Repr

/-- One instruction per row of the opcode table. A `rd` is a host read of the register window, a `wr` a host write
carrying its DATA word; the last eight are the commands that a write of CMD performs. -/
inductive Instr where
  | rdCtrl
  | wrCtrl (data : Word)
  | rdStatus
  | wrStatus (data : Word)
  | rdColor
  | wrColor (data : Word)
  | rdCmd
  | wrCmd (data : Word)
  | rdEncOut
  | wrEncOut (data : Word)
  | rdTxdata
  | wrTxdata (data : Word)
  | rdDmaAddr
  | wrDmaAddr (data : Word)
  /-- Window word `k`, offset 0x100 + 4k. -/
  | rdFrame (k : BitVec 5)
  | wrFrame (k : BitVec 5) (data : Word)
  /-- A reserved byte offset in the window. -/
  | rdRsvd (offset : BitVec 12)
  | wrRsvd (offset : BitVec 12) (data : Word)
  | nop
  | encBit (bit : BitValue)
  | encPair (pair : BitVec 2)
  | encByte (byte : Byte)
  | build
  | start
  | rsvd67 (op : BitVec 1)
  | rsvd8F (op : BitVec 3)
  deriving DecidableEq, Repr

/-- The instruction that is a command's row of the table. -/
def Command.toInstr : Command → Instr
  | .nop => .nop
  | .encBit b => .encBit b
  | .encPair p => .encPair p
  | .encByte x => .encByte x
  | .build => .build
  | .start => .start
  | .rsvd67 op => .rsvd67 op
  | .rsvd8F op => .rsvd8F op

end Sys2Proof
end

