-- ==== Sys2Proof/WellFormed.lean ====
section
/-! DEFINITION. Which instruction terms are well formed. Every operand but one has the width of its field; the offset
of a reserved access must be a reserved, aligned offset (10_state.md R42, 20_memory.md R62). -/

namespace Sys2Proof

/-- R62: the offset is a multiple of 4. -/
def offsetAligned (offset : BitVec 12) : Bool :=
  offset.toNat % 4 == 0

/-- R42: the offset is in 0x01C to 0x0FF or in 0x180 to 0xFFF, the stretches that hold no register. -/
def offsetUnused (offset : BitVec 12) : Bool :=
  (0x01C ≤ offset.toNat && offset.toNat < 0x100) || 0x180 ≤ offset.toNat

/-- The well-formedness check. -/
def Instr.wf : Instr → Bool
  | .rdCtrl => true
  | .wrCtrl _ => true
  | .rdStatus => true
  | .wrStatus _ => true
  | .rdColor => true
  | .wrColor _ => true
  | .rdCmd => true
  | .wrCmd _ => true
  | .rdEncOut => true
  | .wrEncOut _ => true
  | .rdTxdata => true
  | .wrTxdata _ => true
  | .rdDmaAddr => true
  | .wrDmaAddr _ => true
  | .rdFrame _ => true
  | .wrFrame _ _ => true
  | .rdRsvd offset => offsetAligned offset && offsetUnused offset
  | .wrRsvd offset _ => offsetAligned offset && offsetUnused offset
  | .nop => true
  | .encBit _ => true
  | .encPair _ => true
  | .encByte _ => true
  | .build => true
  | .start => true
  | .rsvd67 _ => true
  | .rsvd8F _ => true

end Sys2Proof
end

