-- ==== Sys2Proof/Decode.lean ====
section
/-! DEFINITION. Decoding of bus accesses and command words, written from 30_encoding.md R98 to R104, and the encoder
that goes back. Two kinds of word are decoded: the 13-bit access word with its DATA (R103), and the 32-bit command
word that a write of CMD carries (R98). -/

namespace Sys2Proof

/-- A word of the machine: an access word with the DATA a write carries, or a command word. -/
inductive CodeWord where
  | bus (a : BitVec 13) (data : Word)
  | cmd (w : Word)
  deriving DecidableEq, Repr

/-- Why a word is no instruction. -/
inductive DecodeError where
  /-- R104 step 1: `A[1:0] ≠ 0`. -/
  | misalignedAccess
  deriving DecidableEq, Repr

/-- R103: `A = (W << 12) | OFFSET`. -/
def accessWord (write : Bool) (offset : BitVec 12) : BitVec 13 :=
  BitVec.ofBool write ++ offset

/-- R104 steps 1 and 2: the first row of format BUS that matches `a`, the rows in the table's order. -/
def decodeAccess (a : BitVec 13) (data : Word) : Except DecodeError Instr :=
  if a.extractLsb' 0 2 ≠ 0#2 then .error .misalignedAccess
  else if a = 0x0000#13 then .ok .rdCtrl
  else if a = 0x1000#13 then .ok (.wrCtrl data)
  else if a = 0x0004#13 then .ok .rdStatus
  else if a = 0x1004#13 then .ok (.wrStatus data)
  else if a = 0x0008#13 then .ok .rdColor
  else if a = 0x1008#13 then .ok (.wrColor data)
  else if a = 0x000C#13 then .ok .rdCmd
  else if a = 0x100C#13 then .ok (.wrCmd data)
  else if a = 0x0010#13 then .ok .rdEncOut
  else if a = 0x1010#13 then .ok (.wrEncOut data)
  else if a = 0x0014#13 then .ok .rdTxdata
  else if a = 0x1014#13 then .ok (.wrTxdata data)
  else if a = 0x0018#13 then .ok .rdDmaAddr
  else if a = 0x1018#13 then .ok (.wrDmaAddr data)
  else if a.extractLsb' 7 6 = 0x02#6 then .ok (.rdFrame (a.extractLsb' 2 5))
  else if a.extractLsb' 7 6 = 0x22#6 then .ok (.wrFrame (a.extractLsb' 2 5) data)
  else if a.getLsbD 12 then .ok (.wrRsvd (a.extractLsb' 0 12) data)
  else .ok (.rdRsvd (a.extractLsb' 0 12))

/-- The bit value of one bit: 1 is One (R100, 41_frame_builder.md R151). -/
def bitValue (b : Bool) : BitValue :=
  if b then .one else .zero

/-- R98, R99, R100: the command that a command word names by OP = bits 3:0. Unused bits are ignored (R102). -/
def decodeCommand (w : Word) : Command :=
  let op := w.extractLsb' 0 4
  if op = 0x0#4 then .nop
  else if op = 0x1#4 then .encBit (bitValue (w.getLsbD 4))
  else if op = 0x2#4 then .encPair (w.extractLsb' 4 2)
  else if op = 0x3#4 then .encByte (w.extractLsb' 8 8)
  else if op = 0x4#4 then .build
  else if op = 0x5#4 then .start
  else if w.getLsbD 3 then .rsvd8F (w.extractLsb' 0 3)
  else .rsvd67 (w.extractLsb' 0 1)

/-- Decoding of either kind of word: total, with a named rejection. -/
def decode : CodeWord → Except DecodeError Instr
  | .bus a data => decodeAccess a data
  | .cmd w => .ok (decodeCommand w).toInstr

/-- R104 with its step 3: a write of CMD is decoded on to the command its DATA names. -/
def decodePerformed (a : BitVec 13) (data : Word) : Except DecodeError Instr :=
  match decodeAccess a data with
  | .ok (.wrCmd w) => .ok (decodeCommand w).toInstr
  | r => r

/-- The rows of spec/opcode_table.json of format BUS, as (mask, match), in the table's order. -/
def busRows : List (BitVec 13 × BitVec 13) :=
  [(0x1FFF, 0x0000), (0x1FFF, 0x1000), (0x1FFF, 0x0004), (0x1FFF, 0x1004), (0x1FFF, 0x0008), (0x1FFF, 0x1008)] ++
  [(0x1FFF, 0x000C), (0x1FFF, 0x100C), (0x1FFF, 0x0010), (0x1FFF, 0x1010), (0x1FFF, 0x0014), (0x1FFF, 0x1014)] ++
  [(0x1FFF, 0x0018), (0x1FFF, 0x1018), (0x1F83, 0x0100), (0x1F83, 0x1100), (0x1003, 0x0000), (0x1003, 0x1000)]

/-- The rows of spec/opcode_table.json of a command format, as (mask, match), in the table's order. -/
def commandRows : List (Word × Word) :=
  [(0x0000000F, 0x00000000), (0x0000000F, 0x00000001), (0x0000000F, 0x00000002), (0x0000000F, 0x00000003)] ++
  [(0x0000000F, 0x00000004), (0x0000000F, 0x00000005), (0x0000000E, 0x00000006), (0x00000008, 0x00000008)]

/-- The place of an instruction's row in spec/opcode_table.json; the command rows follow the 18 bus rows. -/
def Instr.row : Instr → Nat
  | .rdCtrl => 0
  | .wrCtrl _ => 1
  | .rdStatus => 2
  | .wrStatus _ => 3
  | .rdColor => 4
  | .wrColor _ => 5
  | .rdCmd => 6
  | .wrCmd _ => 7
  | .rdEncOut => 8
  | .wrEncOut _ => 9
  | .rdTxdata => 10
  | .wrTxdata _ => 11
  | .rdDmaAddr => 12
  | .wrDmaAddr _ => 13
  | .rdFrame _ => 14
  | .wrFrame _ _ => 15
  | .rdRsvd _ => 16
  | .wrRsvd _ _ => 17
  | .nop => 18
  | .encBit _ => 19
  | .encPair _ => 20
  | .encByte _ => 21
  | .build => 22
  | .start => 23
  | .rsvd67 _ => 24
  | .rsvd8F _ => 25

/-- The bits of a command word that its format uses; the others are ignored (R98, R102). -/
def commandUsedBits (w : Word) : Word :=
  let op := w.extractLsb' 0 4
  if op = 0x1#4 then 0x0000001F#32
  else if op = 0x2#4 then 0x0000003F#32
  else if op = 0x3#4 then 0x0000FF0F#32
  else 0x0000000F#32

/-- Whether a table row of `nbits` bits is a command word: the bus rows have 13 bits, two whole bytes; the command
rows have their 4 fixed bits, one whole byte, or the 32 bits of the command word (log 14). -/
def isCommandRow (nbits : Nat) : Bool :=
  nbits ≤ 8 || nbits == 32

/-- The machine word of a table word: for a bus row the access word is bits 15:0 and DATA is bits 47:16; bits 15:13
are no bits of an access word. -/
def tableCodeWord (nbits w : Nat) : Option CodeWord :=
  if isCommandRow nbits then
    if w < 2 ^ 32 then some (.cmd (BitVec.ofNat 32 w)) else none
  else
    if w % 2 ^ 16 < 2 ^ 13 && decide (w < 2 ^ 48) then
      some (.bus (BitVec.ofNat 13 (w % 2 ^ 16)) (BitVec.ofNat 32 (w / 2 ^ 16)))
    else none

/-- The instruction the decoder reads from a word of spec/opcode_table.json. -/
def decodeTableWord (nbits w : Nat) : Option Instr :=
  match tableCodeWord nbits w with
  | none => none
  | some c =>
    match decode c with
    | .ok i => some i
    | .error _ => none

/-- The access word of a read at `offset`. -/
def readWord (offset : BitVec 12) : CodeWord :=
  .bus (accessWord false offset) 0#32

/-- The access word of a write at `offset`, with its DATA. -/
def writeWord (offset : BitVec 12) (data : Word) : CodeWord :=
  .bus (accessWord true offset) data

/-- The offset of FRAME window word `k`: 0x100 + 4k (10_state.md R23). -/
def frameOffset (k : BitVec 5) : BitVec 12 :=
  0b00010#5 ++ k ++ 0#2

/-- A bit value as the bit that encodes it (R100). -/
def BitValue.toBit : BitValue → BitVec 1
  | .zero => 0#1
  | .one => 1#1

/-- The command word of a command, its unused bits zero (R98 to R100). -/
def encodeCommand : Command → Word
  | .nop => 0x00000000#32
  | .encBit b => 0#27 ++ b.toBit ++ 0x1#4
  | .encPair p => 0#26 ++ p ++ 0x2#4
  | .encByte x => 0#16 ++ x ++ 0x03#8
  | .build => 0x00000004#32
  | .start => 0x00000005#32
  | .rsvd67 op => 0#28 ++ 0b011#3 ++ op
  | .rsvd8F op => 0#28 ++ 0b1#1 ++ op

/-- The machine word of an instruction: the register map of 10_state.md R23 and the command formats of R98. -/
def encode : Instr → CodeWord
  | .rdCtrl => readWord 0x000
  | .wrCtrl data => writeWord 0x000 data
  | .rdStatus => readWord 0x004
  | .wrStatus data => writeWord 0x004 data
  | .rdColor => readWord 0x008
  | .wrColor data => writeWord 0x008 data
  | .rdCmd => readWord 0x00C
  | .wrCmd data => writeWord 0x00C data
  | .rdEncOut => readWord 0x010
  | .wrEncOut data => writeWord 0x010 data
  | .rdTxdata => readWord 0x014
  | .wrTxdata data => writeWord 0x014 data
  | .rdDmaAddr => readWord 0x018
  | .wrDmaAddr data => writeWord 0x018 data
  | .rdFrame k => readWord (frameOffset k)
  | .wrFrame k data => writeWord (frameOffset k) data
  | .rdRsvd offset => readWord offset
  | .wrRsvd offset data => writeWord offset data
  | .nop => .cmd (encodeCommand .nop)
  | .encBit b => .cmd (encodeCommand (.encBit b))
  | .encPair p => .cmd (encodeCommand (.encPair p))
  | .encByte x => .cmd (encodeCommand (.encByte x))
  | .build => .cmd (encodeCommand .build)
  | .start => .cmd (encodeCommand .start)
  | .rsvd67 op => .cmd (encodeCommand (.rsvd67 op))
  | .rsvd8F op => .cmd (encodeCommand (.rsvd8F op))

end Sys2Proof
end

