-- ==== Sys2Proof/Config.lean ====
section
/-! DEFINITION. What is fixed for the machine: the constants of 00_scope.md R6 to R10, and the open parameters of R11
and the free values, as constants without a body, so that no proof can see what they are. -/

namespace Sys2Proof.Config

/-- R6: one tick is one cycle of this clock, 12.5 ns. -/
def pgClkHz : Nat := 80000000

/-- R7: `T_SHORT`, in ticks. -/
def tShort : Nat := 32

/-- R7: `T_LONG`, in ticks. -/
def tLong : Nat := 68

/-- R7: `T_RESET`, in ticks. -/
def tReset : Nat := 4000

/-- R8: `T_SER`, the serial bit period in ticks. -/
def tSer : Nat := 25

/-- R9: logical units of a frame, 24 bit units and one reset unit. -/
def logicalFrameLen : Nat := 25

/-- R9: descriptors of a pulse-generator frame. -/
def pgFrameLen : Nat := 25

/-- R9: bytes of a serial frame. -/
def serFrameLen : Nat := 33

/-- R9: pattern bytes of a serial frame. -/
def serDataLen : Nat := 12

/-- R9: zero bytes that end a serial frame. -/
def serFillerLen : Nat := 21

/-- R10: output channels of one instance. -/
def nChannels : Nat := 1

/-- 60_exceptions.md R324: the inter-frame delay of the source's scenario 1, 500 ms, in ticks. -/
def scenarioDelay : Nat := 40000000

/-- 10_state.md R23: length of the register window in bytes. -/
def windowSize : Nat := 4096

/-- 20_memory.md R60, R66: system memory has 32-bit byte addresses. -/
def addressSpace : Nat := 4294967296

/-- R11 `WSE_BASE`, open (log 17). -/
opaque wseBase : Word

/-- R11 `irq_route`, open: where WSE's IRQ goes, with its priority and its sense (60_exceptions.md R313, log 17). -/
opaque irqRoute : IrqRoute

/-- R11 `PALETTE`, open (log 17). -/
opaque palette : Palette

/-- R11 `RX_TOLERANCE`, open: ticks by which a phase may miss its nominal length (log 17, log 20). -/
opaque rxTolerance : Nat

/-- R11 `MAX_GAP`, open: the longest host gap, in ticks, that a bit-banged frame survives (log 17). -/
opaque maxGap : Nat

/-- R11 `dma_admits`, open: the memory spans that accept DMA when the machine comes up (log 7). -/
opaque dmaMapAtReset : List Span

/-- What system memory holds at an address nothing has written since power-on: a free value (log 6). -/
opaque unwrittenByte : Nat → Byte

end Sys2Proof.Config
end

