-- ==== Sys2Proof/Machine/State.lean ====
section
/-! DEFINITION. The state of one WSE instance (10_state.md R20 to R52), the agents' steps that a schedule holds
(00_scope.md R5), and the state after reset (R50). -/

namespace Sys2Proof.Machine

/-- CTRL.BACKEND: the transport (10_state.md R25). The reserved value 3 is never stored (R272). -/
inductive Backend where
  | bbs
  | dma
  | pg
  deriving DecidableEq, Repr

/-- STATUS.STATE: the channel state (10_state.md R28). The value 3 never appears. -/
inductive ChanState where
  | idle
  | transmitting
  | faulted
  deriving DecidableEq, Repr

/-- STATUS.FAULT_CAUSE (10_state.md R32, 60_exceptions.md R301). -/
inductive FaultCause where
  | none
  | busyViolation
  | bufferOverrun
  | transferAbort
  deriving DecidableEq, Repr

/-- FRAME, the internal frame buffer: a pulse frame of descriptors or a serial frame of bytes (10_state.md R43). -/
inductive Frame where
  | pg (d : List Descriptor)
  | ser (s : List Byte)
  deriving DecidableEq, Repr

/-- An element of the output trace: a segment, or the abort marker X that stands for an unspecified prefix of the
unit in flight followed by L (00_scope.md R15, 60_exceptions.md R306). -/
inductive TraceElem where
  | seg (level : Level) (ticks : Nat)
  | abort
  deriving DecidableEq, Repr

/-- The one model fault (60_exceptions.md R328). -/
inductive ModelFault where
  | loanViolation
  deriving DecidableEq, Repr

/-- The width of a host access to the window, in bits (20_memory.md R61). -/
inductive AccessWidth where
  | w8
  | w16
  | w32
  | w64
  deriving DecidableEq, Repr

/-- A host access to the register window, as the bus carries it (30_encoding.md R103). A read's `data` means nothing. -/
structure BusAccess where
  width : AccessWidth
  write : Bool
  offset : BitVec 12
  data : Word
  deriving DecidableEq, Repr

/-- One step of one agent (00_scope.md R5), with what the agent draws in it. -/
inductive Event where
  /-- Host: an access to the register window. -/
  | bus (acc : BusAccess)
  /-- Host: a load of one byte of system memory. -/
  | hostLoadByte (addr : Word)
  /-- Host: a load of a 32-bit little-endian word of system memory. -/
  | hostLoadWord (addr : Word)
  /-- Host: a store of one byte of system memory. -/
  | hostStoreByte (addr : Word) (value : Byte)
  /-- Host: a store of a 32-bit little-endian word of system memory. -/
  | hostStoreWord (addr : Word) (value : Word)
  /-- Host: a wait of at least `atLeast` ticks, for which the Env draws the length `drawn` (60_exceptions.md R324). -/
  | hostDelay (atLeast drawn : Nat)
  /-- Engine: the step of the selected engine; `gap` is the draw of 42_bitbanged_serial.md R182. -/
  | engine (gap : Nat)
  /-- Env: the fault step, with the cause drawn (60_exceptions.md R304). -/
  | envFault (cause : FaultCause)
  /-- Platform: system or power-on reset (70_reset_and_hazards.md R340). -/
  | reset
  /-- Platform: from now on these spans of system memory accept DMA (43_dma_serial.md R213). -/
  | dmaMapChange (spans : List Span)
  deriving DecidableEq, Repr

/-- Why a step has no next state. None of these is a WSE fault: that is a next state (60_exceptions.md R306). -/
inductive Fault where
  /-- Raised by `step`: no agent's step is scheduled; the run is stuck (00_scope.md R16). Safe: nothing is claimed of
  what follows. -/
  | scheduleEmpty
  /-- Raised by an engine event when no engine step is enabled (42 R181, 43 R212, 44 R241): the schedule is no run of
  the machine. Safe. -/
  | engineNotEnabled
  /-- Raised by an Env fault event outside Transmitting, or with a cause R304 does not offer. Safe. -/
  | envFaultNotEnabled
  /-- Raised by a host wait whose drawn length is below what the host asked for (60_exceptions.md R324): the draw is none
  that the Env may make. Safe. -/
  | hostDelayTooShort
  /-- Raised by the pulse generator when FRAME has no descriptor at TX_INDEX, in states that break the invariant of
  10_state.md R49 and that no run reaches. Safe. -/
  | noPulseDescriptor
  /-- Raised by a host word access that would pass the top of the 32-bit address space (20_memory.md R60). Safe. -/
  | hostAddressOutsideMemory
  deriving DecidableEq, Repr

/-- Why an access has no meaning. -/
inductive Refusal where
  /-- Raised by `exec` for an instruction that has no meaning yet. Safe. -/
  | notModelled (mnemonic : String)
  /-- Raised for a window access that is not 32 bits wide (20_memory.md R61). Safe. -/
  | subwordAccess
  /-- Raised for a window access at an offset that is not a multiple of 4 (20_memory.md R62). Safe. -/
  | misalignedAccess
  deriving DecidableEq, Repr

/-- System memory: address and byte pairs, addresses strictly rising (log 6). -/
abbrev Memory := List Host.Cell

/-- What a reset puts away: the trace up to it, whether a WSE fault stood, and the model faults, which no step may lose
(log 10). -/
structure Epoch where
  trace : List TraceElem
  fault : Bool
  modelFaults : List ModelFault
  deriving DecidableEq, Repr

/-- The state: 10_state.md R20's record, system memory, and the model's own fields (INVENTORY.md). -/
structure State where
  /-- CTRL.BACKEND (R25). -/
  backend : Backend
  /-- CTRL.IRQ_EN (R26). -/
  irqEn : Bool
  /-- STATUS.STATE (R28). -/
  chan : ChanState
  /-- STATUS.BUSY (R29). -/
  busy : Bool
  /-- STATUS.DONE (R30). -/
  done : Bool
  /-- STATUS.FAULT (R31). -/
  fault : Bool
  /-- STATUS.FAULT_CAUSE (R32). -/
  faultCause : FaultCause
  /-- STATUS.CMD_ERR (R33). -/
  cmdErr : Bool
  /-- STATUS.FRAME_VALID (R34). -/
  frameValid : Bool
  /-- STATUS.TX_INDEX (R35). -/
  txIndex : BitVec 6
  /-- COLOR, bits 23:0 (R36). -/
  color : BitVec 24
  /-- ENC_OUT (R38). -/
  encOut : Word
  /-- DMA_ADDR (R40). -/
  dmaAddr : Word
  /-- FRAME (R43). -/
  frame : Frame
  /-- SH_BYTE (R44). -/
  shByte : Byte
  /-- LINE (R47). -/
  line : Level
  /-- The output trace, in emission order (00_scope.md R15). -/
  trace : List TraceElem
  /-- The model-fault set (R48). -/
  modelFaults : List ModelFault
  /-- The refused mark (R48). -/
  refusedMark : Option Refusal
  /-- System memory (20_memory.md R60). -/
  memory : Memory
  /-- The spans that accept DMA now: the parameter `dma_admits` (20_memory.md R66, log 7). -/
  dmaMap : List Span
  /-- The value the last read returned to the host (45_channel_control.md R270, log 5). -/
  hostData : Word
  /-- TXDATA bytes accepted since START (R49, log 12). -/
  bytesAccepted : Nat
  /-- The BACKEND of the current or last frame, to which TX_INDEX belongs (R35, R49, log 11). -/
  frameBackend : Backend
  /-- Ticks the host's waits have drawn in all (60_exceptions.md R324, log 18). -/
  hostWaited : Nat
  /-- The agents' steps to come, the next one first (log 1). -/
  schedule : List Event
  /-- What earlier resets put away, oldest first (log 10). -/
  past : List Epoch
  deriving DecidableEq, Repr

/-- R50: every field at its reset value. FRAME and SH_BYTE are unspecified there and hold the values of log 8 and
log 9. -/
def State.reset : State where
  backend := .bbs
  irqEn := false
  chan := .idle
  busy := false
  done := false
  fault := false
  faultCause := .none
  cmdErr := false
  frameValid := false
  txIndex := 0#6
  color := 0#24
  encOut := 0#32
  dmaAddr := 0#32
  frame := .ser (List.replicate Config.serFrameLen 0#8)
  shByte := 0#8
  line := .low
  trace := []
  modelFaults := []
  refusedMark := none
  memory := []
  dmaMap := Config.dmaMapAtReset
  hostData := 0#32
  bytesAccepted := 0
  frameBackend := .bbs
  hostWaited := 0
  schedule := []
  past := []

end Sys2Proof.Machine
end

