-- ==== Sys2Proof/Machine/Ops.lean ====
section
/-! DEFINITION. The shared operations: system memory, the output line, the channel's transitions, fault entry and the
one way out of it, reset. -/

namespace Sys2Proof.Machine

/-! ### System memory (20_memory.md R60 to R71) -/

/-- The addresses of the cells rise strictly from above `low`, and stay inside the 32-bit address space. -/
def risesAbove : Option Nat → Memory → Bool
  | _, [] => true
  | none, (a, _) :: rest => decide (a < Config.addressSpace) && risesAbove (some a) rest
  | some low, (a, _) :: rest => decide (low < a) && decide (a < Config.addressSpace) && risesAbove (some a) rest

/-- The canonical form: addresses strictly rising, each below 2^32. An unlisted address has no byte, so no entry can
equal what it reads as. -/
def Memory.wf (m : Memory) : Bool :=
  risesAbove none m

/-- The byte most recently written at `a`, if any (R70, R73). An unlisted address answers none. -/
def readCell : Memory → Nat → Option Byte
  | [], _ => none
  | (k, v) :: rest, a => if a = k then some v else readCell rest a

/-- `MemRead(a, 1)` (R70). A byte that nothing has written is a free value (log 6). -/
def memRead (m : Memory) (a : Nat) : Byte :=
  (readCell m a).getD (Config.unwrittenByte a)

/-- `MemWrite(a, 1, v)` (R71), in canonical form. -/
def memWrite : Memory → Nat → Byte → Memory
  | [], a, v => [(a, v)]
  | (k, w) :: rest, a, v =>
    if a < k then (a, v) :: (k, w) :: rest
    else if a = k then (a, v) :: rest
    else (k, w) :: memWrite rest a v

/-- Consecutive byte writes in ascending order from `a` (R65, R71). -/
def memWriteBytes : Memory → Nat → List Byte → Memory
  | m, _, [] => m
  | m, a, v :: rest => memWriteBytes (memWrite m a v) (a + 1) rest

/-- The four bytes of a word, lane 0 first (R63). -/
def wordBytes (w : Word) : List Byte :=
  [w.extractLsb' 0 8, w.extractLsb' 8 8, w.extractLsb' 16 8, w.extractLsb' 24 8]

/-- The word whose lanes 0 to 3 are the four bytes (R63). -/
def wordOfBytes (b0 b1 b2 b3 : Byte) : Word :=
  b3 ++ b2 ++ b1 ++ b0

/-- `dma_admits(addr, n)` (R66): never past 2^32, else as the spans say (log 7). A span may
cover the register window: the access then acts on system memory (log 25). -/
def dmaAdmits (spans : List Span) (addr n : Nat) : Bool :=
  decide (addr + n ≤ Config.addressSpace) &&
    spans.any fun r => decide (r.base ≤ addr) && decide (addr + n ≤ r.base + r.len)

/-! ### The line and the trace (00_scope.md R14, R15) -/

/-- `Emit(level, n)`: LINE follows the segments a step emits (10_state.md R47). -/
def State.emit (level : Level) (n : Nat) (s : State) : State :=
  { s with trace := s.trace ++ [.seg level n], line := level }

/-- 42_bitbanged_serial.md R180: the line's return to L after a serial byte (log 13). -/
def State.lineIdle (s : State) : State :=
  { s with line := .low }

/-! ### Rejection, completion, fault entry, reset -/

/-- `reject()` (60_exceptions.md R305). -/
def State.reject (s : State) : State :=
  { s with cmdErr := true }

/-- `complete()` (45_channel_control.md R291). -/
def State.complete (s : State) : State :=
  { s with chan := .idle, busy := false, done := true }

/-- The abort marker that ends a frame cut short; nothing outside Transmitting (60_exceptions.md R306). -/
def State.markAbort (s : State) : State :=
  { s with trace := if s.chan = .transmitting then s.trace ++ [.abort] else s.trace }

/-- `raise Fault(cause)` (60_exceptions.md R306): taking WSE's exception. -/
def State.faultEntry (cause : FaultCause) (s : State) : State :=
  { s.markAbort with chan := .faulted, fault := true, faultCause := cause, busy := false, line := .low }

/-- Reset of the running machine, the only way out of Faulted (60_exceptions.md R308; 70_reset_and_hazards.md R340 to
R342): X for a frame in flight, then every field at its value of R50. System memory is not touched (R341); the
trace, FAULT and the model faults so far are put away (log 10); what is the host's and the platform's stays. A refused
run has no step, so no reset clears its mark. -/
def State.blockReset (s : State) : State :=
  { State.reset with
    memory := s.memory
    dmaMap := s.dmaMap
    hostData := s.hostData
    hostWaited := s.hostWaited
    schedule := s.schedule
    past := s.past ++ [⟨s.markAbort.trace, s.fault, s.modelFaults⟩] }

/-- The frame begins: STATE <- Transmitting; DONE <- 0; TX_INDEX <- 0 (45_channel_control.md R280). The model notes that no
byte has been accepted (log 12) and which BACKEND the frame is of (log 11). -/
def State.openFrame (s : State) : State :=
  { s with chan := .transmitting, done := false, txIndex := 0#6, bytesAccepted := 0, frameBackend := s.backend }

/-- One more unit has been fully emitted (10_state.md R35). -/
def State.countUnit (s : State) : State :=
  { s with txIndex := s.txIndex + 1#6 }

/-- BUSY <- `b`. -/
def State.setBusy (b : Bool) (s : State) : State :=
  { s with busy := b }

/-- A read's answer to the host (45_channel_control.md R270); nothing else changes (20_memory.md R67). -/
def State.answer (v : Word) (s : State) : State :=
  { s with hostData := v }

/-- `n` more ticks of a host's wait have passed (60_exceptions.md R324, log 18). -/
def State.passTicks (n : Nat) (s : State) : State :=
  { s with hostWaited := s.hostWaited + n }

/-- From now on `spans` accept DMA (43_dma_serial.md R213, log 7). -/
def State.setDmaMap (spans : List Span) (s : State) : State :=
  { s with dmaMap := spans }

/-- A model fault enters the sticky set (60_exceptions.md R328). -/
def State.recordModelFault (f : ModelFault) (s : State) : State :=
  { s with modelFaults := if f ∈ s.modelFaults then s.modelFaults else s.modelFaults ++ [f] }

/-- Whether the DMA buffer is on loan to the engine (20_memory.md R74). -/
def State.onLoan (s : State) : Bool :=
  decide (s.backend = .dma) && decide (s.chan = .transmitting)

/-- Whether `a` is a byte of the DMA buffer, `DMA_ADDR .. DMA_ADDR+32` (20_memory.md R65). -/
def State.inDmaBuffer (s : State) (a : Nat) : Bool :=
  decide (s.dmaAddr.toNat ≤ a) && decide (a < s.dmaAddr.toNat + Config.serFrameLen)

end Sys2Proof.Machine
end

