-- ==== Sys2Proof/Machine/Encoding.lean ====
section
/-! DEFINITION. The data encodings: what a bit, a byte, a colour and a reset look like as pulse descriptors and as
serial bytes (30_encoding.md R90 to R97, 40_bit_encoder.md R120 to R128, 41_frame_builder.md R150 to R155), and the
output trace's normal form (00_scope.md R15). All are pure and total (R126). -/

namespace Sys2Proof.Machine

/-- R91: level 1 is H and level 0 is L. -/
def levelOf (b : Bool) : Level :=
  if b then .high else .low

/-! ### Pulse descriptors -/

/-- R92: a descriptor as a register shows it (log 23). -/
def pack (d : Descriptor) : Word :=
  d.length1.zeroExtend 32 ||| ((BitVec.ofBool d.level1).zeroExtend 32 <<< 15) |||
    (d.length2.zeroExtend 32 <<< 16) ||| ((BitVec.ofBool d.level2).zeroExtend 32 <<< 31)

/-- R92 read backwards. -/
def unpack (w : Word) : Descriptor where
  level1 := w.getLsbD 15
  length1 := w.extractLsb' 0 15
  level2 := w.getLsbD 31
  length2 := w.extractLsb' 16 15

/-- R121. -/
def encodeBitPulse : BitValue → Descriptor
  | .one => ⟨true, BitVec.ofNat 15 Config.tLong, false, BitVec.ofNat 15 Config.tShort⟩
  | .zero => ⟨true, BitVec.ofNat 15 Config.tShort, false, BitVec.ofNat 15 Config.tLong⟩

/-- R122. -/
def resetDescriptor : Descriptor :=
  ⟨false, BitVec.ofNat 15 Config.tReset, false, 0#15⟩

/-- R128. -/
def decodeDescriptor (d : Descriptor) : Option BitValue :=
  if d = encodeBitPulse .one then some .one
  else if d = encodeBitPulse .zero then some .zero
  else none

/-- R241: the two segments of a descriptor. -/
def pulseSegments (d : Descriptor) : List TraceElem :=
  [.seg (levelOf d.level1) d.length1.toNat, .seg (levelOf d.level2) d.length2.toNat]

/-! ### Serial patterns -/

/-- `P` (R93, R123): the pattern byte of a 2-bit window. -/
def patternByte (p : BitVec 2) : Byte :=
  if p = 0#2 then 0x88#8
  else if p = 1#2 then 0x8E#8
  else if p = 2#2 then 0xE8#8
  else 0xEE#8

/-- The extraction of R124: the pattern of the top 2 bits, then a left shift by 2, `n` times. -/
def extractPairs : Nat → Byte → List Byte
  | 0, _ => []
  | n + 1, x => patternByte (x.extractLsb' 6 2) :: extractPairs n (x <<< 2)

/-- `encodeByteSerial` (R124). -/
def encodeByteSerial (b : Byte) : List Byte :=
  extractPairs 4 b

/-- R127: the inverse of `P`. -/
def decodePattern (v : Byte) : Option (BitVec 2) :=
  if v = 0x88#8 then some 0#2
  else if v = 0x8E#8 then some 1#2
  else if v = 0xE8#8 then some 2#2
  else if v = 0xEE#8 then some 3#2
  else none

/-- R127: four pattern bytes back to the byte they encode. -/
def decodeByteSerial : List Byte → Option Byte
  | [q0, q1, q2, q3] =>
    match decodePattern q0, decodePattern q1, decodePattern q2, decodePattern q3 with
    | some p0, some p1, some p2, some p3 => some (p0 ++ p1 ++ p2 ++ p3)
    | _, _, _, _ => none
  | _ => none

/-- `serBits` (R95): a serial byte on the wire, bit 7 first, `T_SER` ticks a bit. -/
def serBits (v : Byte) : List TraceElem :=
  [7, 6, 5, 4, 3, 2, 1, 0].map fun i => .seg (levelOf (v.getLsbD i)) Config.tSer

/-- ENC_BYTE's packing: pattern k in byte lane k (R131, 20_memory.md R63). -/
def packPatterns : List Byte → Word
  | [q0, q1, q2, q3] => wordOfBytes q0 q1 q2 q3
  | _ => 0#32

/-! ### Frames -/

/-- R150: the channel multiplexer. -/
def channels (c : Color) : List Byte :=
  [c.g, c.r, c.b]

/-- R151: a channel's bits, most significant first. -/
def channelBits (v : Byte) : List BitValue :=
  [7, 6, 5, 4, 3, 2, 1, 0].map fun i => bitValue (v.getLsbD i)

/-- R151. -/
def bitSeq (c : Color) : List BitValue :=
  (channels c).flatMap channelBits

/-- A unit of a logical frame (R152). -/
inductive LogicalUnit where
  | bit (v : BitValue)
  | reset
  deriving DecidableEq, Repr

/-- R152: 24 bit units and one reset unit. -/
def logicalFrame (c : Color) : List LogicalUnit :=
  (bitSeq c).map .bit ++ [.reset]

/-- R153. -/
def buildFramePG (c : Color) : List Descriptor :=
  (bitSeq c).map encodeBitPulse ++ [resetDescriptor]

/-- R154. -/
def buildFrameSerial (c : Color) : List Byte :=
  encodeByteSerial c.g ++ encodeByteSerial c.r ++ encodeByteSerial c.b ++ List.replicate Config.serFillerLen 0#8

/-- The frame BUILD makes under a backend (10_state.md R25, R156). -/
def buildFrame (k : Backend) (c : Color) : Frame :=
  match k with
  | .pg => .pg (buildFramePG c)
  | .bbs => .ser (buildFrameSerial c)
  | .dma => .ser (buildFrameSerial c)

/-- The byte of a serial frame that a window lane shows: 0 past byte 32 (R158). -/
def windowByte (s : List Byte) (i : Nat) : Byte :=
  if i < Config.serFrameLen then s.getD i 0#8 else 0#8

/-- R158: what window word `k` shows of a frame. -/
def frameWord (f : Frame) (k : Nat) : Word :=
  match f with
  | .pg d => if k < Config.pgFrameLen then ((d[k]?).map pack).getD 0#32 else 0#32
  | .ser s =>
    if k < 9 then
      wordOfBytes (windowByte s (4 * k)) (windowByte s (4 * k + 1)) (windowByte s (4 * k + 2)) (windowByte s (4 * k + 3))
    else 0#32

/-- The physical units of a frame under a backend (00_scope.md R9). -/
def frameLen : Backend → Nat
  | .bbs => Config.serFrameLen
  | .dma => Config.serFrameLen
  | .pg => Config.pgFrameLen

/-! ### The trace's normal form (00_scope.md R15) -/

/-- Puts an element before a normal trace: 0 ticks are dropped, equal neighbouring levels merged. -/
def normCons : TraceElem → List TraceElem → List TraceElem
  | .abort, t => .abort :: t
  | .seg _ 0, t => t
  | .seg l (n + 1), .seg l' m :: t => if l = l' then .seg l (n + 1 + m) :: t else .seg l (n + 1) :: .seg l' m :: t
  | .seg l (n + 1), t => .seg l (n + 1) :: t

/-- `norm(trace)`. Two traces show the same waveform iff their norms are equal. -/
def norm (t : List TraceElem) : List TraceElem :=
  t.foldr normCons []

/-- The ticks of a trace's segments. -/
def traceTicks : List TraceElem → Nat
  | [] => 0
  | .seg _ n :: t => n + traceTicks t
  | .abort :: t => traceTicks t

end Sys2Proof.Machine
end

