-- ==== Sys2Proof/Machine/BitEncoder.lean ====
section
/-! DEFINITION. The encoder commands ENC_BIT, ENC_PAIR and ENC_BYTE (40_bit_encoder.md R129 to R132). They are allowed
in every state and write ENC_OUT alone. -/

namespace Sys2Proof.Machine

/-- A value for every instruction's result type. -/
abbrev Answer := Host.Outcome State Fault Refusal

/-- The one effect of an ENC_* command (R132). -/
def State.setEncOut (v : Word) (s : State) : State :=
  { s with encOut := v }

/-- R129. -/
def execEncBit (bit : BitValue) (s : State) : Answer :=
  .next (s.setEncOut (pack (encodeBitPulse bit)))

/-- R130. -/
def execEncPair (pair : BitVec 2) (s : State) : Answer :=
  .next (s.setEncOut ((patternByte pair).zeroExtend 32))

/-- R131. -/
def execEncByte (byte : Byte) (s : State) : Answer :=
  .next (s.setEncOut (packPatterns (encodeByteSerial byte)))

end Sys2Proof.Machine
end

