-- ==== Sys2Proof/Machine/Operands.lean ====
section
/-! DEFINITION. The fields that accesses take from DATA and from the registers (10_state.md R24 to R40). -/

namespace Sys2Proof.Machine

/-- R24: `DATA[1:0]` of a CTRL write as a backend; 3 is reserved. -/
def ctrlBackend (data : Word) : Option Backend :=
  let nb := data.extractLsb' 0 2
  if nb = 0#2 then some .bbs
  else if nb = 1#2 then some .dma
  else if nb = 2#2 then some .pg
  else none

/-- R24: `DATA[2]` of a CTRL write. -/
def ctrlIrqEn (data : Word) : Bool :=
  data.getLsbD 2

/-- R274: `DATA[3]` of a STATUS write. -/
def statusClearDone (data : Word) : Bool :=
  data.getLsbD 3

/-- R274: `DATA[7]` of a STATUS write. -/
def statusClearCmdErr (data : Word) : Bool :=
  data.getLsbD 7

/-- R292: `DATA[23:0]` of a COLOR write. -/
def colorField (data : Word) : BitVec 24 :=
  data.extractLsb' 0 24

/-- R36, R156: the colour that COLOR holds. -/
def colorOf (reg : BitVec 24) : Color where
  r := reg.extractLsb' 16 8
  g := reg.extractLsb' 8 8
  b := reg.extractLsb' 0 8

/-- R184: `DATA[7:0]` of a TXDATA write. -/
def txByte (data : Word) : Byte :=
  data.extractLsb' 0 8

/-- R286: `DATA & 0xFFFFFFFC` of a DMA_ADDR write. -/
def dmaAddrField (data : Word) : Word :=
  data &&& 0xFFFFFFFC#32

end Sys2Proof.Machine
end

