-- ==== Sys2Proof/Machine/Serial.lean ====
section
/-! DEFINITION. The serial shifter and the bit-banged transport (42_bitbanged_serial.md R180 to R189). -/

namespace Sys2Proof.Machine

/-- `shiftOut(v)` (R180): the segments of `serBits`, after which the line is L. -/
def State.shiftOut (v : Byte) (s : State) : State :=
  { s with trace := s.trace ++ serBits v }.lineIdle

/-- The end of an engine step: one more unit is counted, and the frame completes at its length (R181, R212, R241). -/
def State.endUnit (s : State) : State :=
  if s.countUnit.txIndex.toNat = frameLen s.backend then s.countUnit.complete else s.countUnit

/-- R184: SH_BYTE <- the byte; BUSY <- 1. -/
def State.latchByte (v : Byte) (s : State) : State :=
  { s with shByte := v, busy := true, bytesAccepted := s.bytesAccepted + 1 }

/-- R184: WR.TXDATA. The mode and state check comes before the BUSY check (60_exceptions.md R310). -/
def execWrTxdata (data : Word) (s : State) : Answer :=
  if ¬(s.backend = .bbs ∧ s.chan = .transmitting) then .next s.reject
  else if s.busy then .next (s.faultEntry .busyViolation)
  else .next (s.latchByte (txByte data))

/-- 45_channel_control.md R285: RD.TXDATA. -/
def execRdTxdata (s : State) : Answer :=
  .next (s.answer 0#32)

/-- R183: START in BBS mode. -/
def State.startBbs (s : State) : State :=
  s.openFrame.setBusy false

/-- R181: the shifter step, enabled in BBS mode, Transmitting, with BUSY = 1. `gap` is the draw of R182. -/
def bbsStep (gap : Nat) (s : State) : Answer :=
  if s.busy then
    .next (((s.emit .low gap).shiftOut s.shByte).setBusy false).endUnit
  else .fault .engineNotEnabled

end Sys2Proof.Machine
end

