-- ==== Sys2Proof/Machine/Dma.lean ====
section
/-! DEFINITION. The DMA transport (43_dma_serial.md R210 to R219). -/

namespace Sys2Proof.Machine

/-- R210: START in DMA mode. -/
def State.startDma (s : State) : State :=
  s.openFrame.setBusy true

/-- The address the DMA engine reads next, without wrap (R212, 45_channel_control.md R295). -/
def State.dmaNext (s : State) : Nat :=
  s.dmaAddr.toNat + s.txIndex.toNat

/-- R212, R213: the DMA engine step, enabled in DMA mode, Transmitting, with TX_INDEX < 33. -/
def dmaStep (s : State) : Answer :=
  if s.txIndex.toNat < Config.serFrameLen then
    if dmaAdmits s.dmaMap s.dmaNext 1 then .next (s.shiftOut (memRead s.memory s.dmaNext)).endUnit
    else .next (s.faultEntry .transferAbort)
  else .fault .engineNotEnabled

end Sys2Proof.Machine
end

