-- ==== Sys2Proof/Machine/Flags.lean ====
section
/-! DEFINITION. What the host reads of the flags: the CTRL and STATUS words, and the interrupt level. -/

namespace Sys2Proof.Machine

/-- 10_state.md R25. -/
def Backend.code : Backend → BitVec 2
  | .bbs => 0#2
  | .dma => 1#2
  | .pg => 2#2

/-- 10_state.md R28. -/
def ChanState.code : ChanState → BitVec 2
  | .idle => 0#2
  | .transmitting => 1#2
  | .faulted => 2#2

/-- 60_exceptions.md R301. -/
def FaultCause.code : FaultCause → BitVec 2
  | .none => 0#2
  | .busyViolation => 1#2
  | .bufferOverrun => 2#2
  | .transferAbort => 3#2

/-- A one-bit flag at bit `i` of a register word. -/
def flagAt (b : Bool) (i : Nat) : Word :=
  (BitVec.ofBool b).zeroExtend 32 <<< i

/-- The CTRL word (45_channel_control.md R271). -/
def State.ctrlWord (s : State) : Word :=
  flagAt s.irqEn 2 ||| s.backend.code.zeroExtend 32

/-- The STATUS word (45_channel_control.md R273). -/
def State.statusWord (s : State) : Word :=
  s.chan.code.zeroExtend 32 ||| flagAt s.busy 2 ||| flagAt s.done 3 ||| flagAt s.fault 4 |||
    (s.faultCause.code.zeroExtend 32 <<< 5) ||| flagAt s.cmdErr 7 ||| flagAt s.frameValid 8 |||
    (s.txIndex.zeroExtend 32 <<< 16)

/-- The interrupt output, a level (60_exceptions.md R311). -/
def State.irq (s : State) : Bool :=
  s.irqEn && (s.done || s.fault)

/-- The route that WSE's interrupt drives now, if any (60_exceptions.md R313). -/
def State.irqLine (s : State) : Option IrqRoute :=
  if s.irq then some Config.irqRoute else none

end Sys2Proof.Machine
end

