-- ==== Sys2Proof/Machine/Pulse.lean ====
section
/-! DEFINITION. The pulse-generator transport (44_pulse_generator.md R240 to R246). -/

namespace Sys2Proof.Machine

/-- R240: START in PG mode. -/
def State.startPg (s : State) : State :=
  s.openFrame

/-- The descriptor the pulse generator emits next, `FRAME.d[TX_INDEX]` (10_state.md R46). -/
def State.nextDescriptor (s : State) : Option Descriptor :=
  match s.frame with
  | .pg d => d[s.txIndex.toNat]?
  | .ser _ => none

/-- The two phases of a descriptor (R241, R242). -/
def State.emitPulse (d : Descriptor) (s : State) : State :=
  (s.emit (levelOf d.level1) d.length1.toNat).emit (levelOf d.level2) d.length2.toNat

/-- R241: the pulse-generator step, enabled in PG mode, Transmitting, with TX_INDEX < 25. A FRAME with no
descriptor there is met in no run (log 19). -/
def pgStep (s : State) : Answer :=
  if s.txIndex.toNat < Config.pgFrameLen then
    match s.nextDescriptor with
    | some d => .next (s.emitPulse d).endUnit
    | none => .fault .noPulseDescriptor
  else .fault .engineNotEnabled

end Sys2Proof.Machine
end

