-- ==== Sys2Proof/Machine/Control.lean ====
section
/-! DEFINITION. The register accesses of 45_channel_control.md R271 to R294, and the commands NOP, reserved and START
(R278 to R280). -/

namespace Sys2Proof.Machine

/-- R271. -/
def execRdCtrl (s : State) : Answer :=
  .next (s.answer s.ctrlWord)

/-- BACKEND <- `nb`; FRAME_VALID <- 0 if that changes it (R272, 41_frame_builder.md R160). -/
def State.setBackend (nb : Backend) (s : State) : State :=
  { s with backend := nb, frameValid := s.frameValid && decide (nb = s.backend) }

/-- IRQ_EN <- `b` (R272). -/
def State.setIrqEn (b : Bool) (s : State) : State :=
  { s with irqEn := b }

/-- R272: WR.CTRL. BACKEND is locked unless Idle, and 3 leaves it unchanged. -/
def execWrCtrl (data : Word) (s : State) : Answer :=
  match s.chan, ctrlBackend data with
  | .idle, some nb => .next ((s.setIrqEn (ctrlIrqEn data)).setBackend nb)
  | _, _ => .next (s.setIrqEn (ctrlIrqEn data))

/-- R273. -/
def execRdStatus (s : State) : Answer :=
  .next (s.answer s.statusWord)

/-- R274: WR.STATUS clears DONE and CMD_ERR where DATA has a 1. -/
def execWrStatus (data : Word) (s : State) : Answer :=
  .next { s with
    done := s.done && !statusClearDone data
    cmdErr := s.cmdErr && !statusClearCmdErr data }

/-- R275. -/
def execRdColor (s : State) : Answer :=
  .next (s.answer (s.color.zeroExtend 32))

/-- R292. -/
def execWrColor (data : Word) (s : State) : Answer :=
  .next { s with color := colorField data }

/-- R277. -/
def execRdCmd (s : State) : Answer :=
  .next (s.answer 0#32)

/-- R284. -/
def execRdEncOut (s : State) : Answer :=
  .next (s.answer s.encOut)

/-- R293: ignored. -/
def execWrEncOut (_data : Word) (s : State) : Answer :=
  .next s

/-- R287. -/
def execRdDmaAddr (s : State) : Answer :=
  .next (s.answer s.dmaAddr)

/-- R286: WR.DMA_ADDR, ignored while Transmitting. In DMA mode it clears FRAME_VALID. -/
def execWrDmaAddr (data : Word) (s : State) : Answer :=
  if s.chan = .transmitting then .next s
  else
    .next { s with
      dmaAddr := dmaAddrField data
      frameValid := s.frameValid && decide (s.backend ≠ .dma) }

/-- R288. -/
def execRdRsvd (_offset : BitVec 12) (s : State) : Answer :=
  .next (s.answer 0#32)

/-- R294: ignored. -/
def execWrRsvd (_offset : BitVec 12) (_data : Word) (s : State) : Answer :=
  .next s

/-- R278. -/
def execNop (s : State) : Answer :=
  .next s

/-- R279, OP = 0x6 and 0x7: rejected in every state. -/
def execRsvd67 (_op : BitVec 1) (s : State) : Answer :=
  .next s.reject

/-- R279, OP = 0x8 to 0xF: rejected in every state. -/
def execRsvd8F (_op : BitVec 3) (s : State) : Answer :=
  .next s.reject

/-- The frame opens as the transport opens it (R280 with 42 R183, 43 R210, 44 R240). -/
def State.startFrame (s : State) : State :=
  match s.backend with
  | .bbs => s.startBbs
  | .dma => s.startDma
  | .pg => s.startPg

/-- R280: START. In DMA and PG mode it needs a valid frame. -/
def execStart (s : State) : Answer :=
  if s.chan ≠ .idle then .next s.reject
  else if s.backend ≠ .bbs ∧ s.frameValid = false then .next s.reject
  else .next s.startFrame

end Sys2Proof.Machine
end

