-- ==== Sys2Proof/Machine/Agents.lean ====
section
/-! DEFINITION. The steps of the agents that are no instruction: the engine's, the Env's, the host's memory accesses
and waits, and the host's view of the window (00_scope.md R5). -/

namespace Sys2Proof.Machine

/-- The Engine's step: the engine that CTRL.BACKEND selects, in Transmitting (00_scope.md R5; 42 R181, 43 R212, 44
R241). Only the shifter draws a gap; DMA and PG have none (42 R182, log 21). -/
def engineStep (gap : Nat) (s : State) : Answer :=
  if s.chan = .transmitting then
    match s.backend with
    | .bbs => bbsStep gap s
    | .dma => dmaStep s
    | .pg => pgStep s
  else .fault .engineNotEnabled

/-- The causes the Env may draw (60_exceptions.md R304). -/
def envCauses (k : Backend) : List FaultCause :=
  match k with
  | .dma => [.bufferOverrun, .transferAbort]
  | .bbs => [.transferAbort]
  | .pg => [.transferAbort]

/-- The Env fault step (60_exceptions.md R304). -/
def envFaultStep (cause : FaultCause) (s : State) : Answer :=
  if s.chan = .transmitting ∧ cause ∈ envCauses s.backend then .next (s.faultEntry cause)
  else .fault .envFaultNotEnabled

/-- R61, R62, R104: a host access as an instruction, or the reason the model has no step for it. The width is looked
at before the offset (log 3). -/
def fetchAccess (acc : BusAccess) : Except Refusal Instr :=
  if acc.width ≠ .w32 then .error .subwordAccess
  else
    match decodeAccess (accessWord acc.write acc.offset) acc.data with
    | .ok i => .ok i
    | .error .misalignedAccess => .error .misalignedAccess

/-- R14 `refuse(reason)`: the run is marked refused (log 4). -/
def State.markRefused (r : Refusal) (s : State) : State :=
  { s with refusedMark := some r }

/-- A host store of bytes from `a`; into a buffer on loan it is the model fault `loan_violation`, and the store still
happens (43_dma_serial.md R216). -/
def State.storeBytes (a : Nat) (bytes : List Byte) (s : State) : State :=
  let s' := { s with memory := memWriteBytes s.memory a bytes }
  if s.onLoan && (List.range bytes.length).any (fun j => s.inDmaBuffer (a + j)) then
    s'.recordModelFault .loanViolation
  else s'

/-- A host store of one byte. The model takes every address of the 32-bit space as ordinary memory of the host: whether
DMA is admitted there (log 24), or whether the register window lies there (log 25), makes no difference. -/
def hostStoreByte (addr : Word) (value : Byte) (s : State) : Answer :=
  .next (s.storeBytes addr.toNat [value])

/-- Whether the `n` bytes from `a` lie in the 32-bit address space (20_memory.md R60). That the host can reach all of it,
the DMA spans and the register window notwithstanding, is the model's choice (log 24, log 25). -/
def inMemory (a n : Nat) : Bool :=
  decide (a + n ≤ Config.addressSpace)

/-- A host store of a little-endian word (20_memory.md R63), to any memory of the host (log 16, log 24, log 25). -/
def hostStoreWord (addr value : Word) (s : State) : Answer :=
  if inMemory addr.toNat 4 then .next (s.storeBytes addr.toNat (wordBytes value))
  else .fault .hostAddressOutsideMemory

/-- A host load of one byte; a load from a buffer on loan is allowed (43_dma_serial.md R215). Any address is
the host's memory (log 24, log 25). -/
def hostLoadByte (addr : Word) (s : State) : Answer :=
  .next (s.answer ((memRead s.memory addr.toNat).zeroExtend 32))

/-- A host load of a little-endian word (20_memory.md R63), from any memory of the host (log 16, log 24, log 25). -/
def hostLoadWord (addr : Word) (s : State) : Answer :=
  let a := addr.toNat
  if inMemory a 4 then
    .next (s.answer
      (wordOfBytes (memRead s.memory a) (memRead s.memory (a + 1)) (memRead s.memory (a + 2)) (memRead s.memory (a + 3))))
  else .fault .hostAddressOutsideMemory

/-- A host wait of any length `drawn ≥ atLeast` (60_exceptions.md R324): WSE does nothing for it, and the line holds its
level. The ticks are counted (log 18). -/
def hostDelay (atLeast drawn : Nat) (s : State) : Answer :=
  if atLeast ≤ drawn then .next (s.passTicks drawn) else .fault .hostDelayTooShort

/-- The platform's reset (70_reset_and_hazards.md R340). -/
def resetStep (s : State) : Answer :=
  .next s.blockReset

/-- `dma_admits` changes (43_dma_serial.md R213, log 7). -/
def dmaMapStep (spans : List Span) (s : State) : Answer :=
  .next (s.setDmaMap spans)

/-- What a host access asks of the schedule for a machine word: the access itself, or for a command word the write of
CMD that carries it (10_state.md R37, log 14). -/
def eventOfWord : CodeWord → Event
  | .bus a data => .bus ⟨.w32, a.getLsbD 12, a.extractLsb' 0 12, data⟩
  | .cmd w => .bus ⟨.w32, true, 0x00C#12, w⟩

end Sys2Proof.Machine
end

