-- ==== Sys2Proof/Machine/FrameBuilder.lean ====
section
/-! DEFINITION. BUILD and the FRAME window (41_frame_builder.md R156 to R160). -/

namespace Sys2Proof.Machine

/-- The colour BUILD reads, once (R156). -/
def State.buildColor (s : State) : Color :=
  colorOf s.color

/-- FRAME <- the frame of COLOR under BACKEND; FRAME_VALID <- 1 (R156). -/
def State.loadFrame (s : State) : State :=
  { s with frame := buildFrame s.backend s.buildColor, frameValid := true }

/-- R157: the serial frame of COLOR goes to `DMA_ADDR .. DMA_ADDR+32`, in ascending order. -/
def State.storeFrame (s : State) : State :=
  { s with memory := memWriteBytes s.memory s.dmaAddr.toNat (buildFrameSerial s.buildColor) }

/-- R156: BUILD. -/
def execBuild (s : State) : Answer :=
  if s.chan ≠ .idle then .next s.reject
  else
    match s.backend with
    | .pg => .next s.loadFrame
    | .bbs => .next s.loadFrame
    | .dma =>
      if dmaAdmits s.dmaMap s.dmaAddr.toNat Config.serFrameLen then .next s.storeFrame.loadFrame
      else .next (s.faultEntry .transferAbort)

/-- R158: what a read of window word `k` returns. -/
def State.windowWord (k : Nat) (s : State) : Word :=
  if s.frameValid then frameWord s.frame k else 0#32

/-- R158: RD.FRAME. -/
def execRdFrame (k : BitVec 5) (s : State) : Answer :=
  .next (s.answer (s.windowWord k.toNat))

/-- R159: WR.FRAME is ignored. -/
def execWrFrame (_k : BitVec 5) (_data : Word) (s : State) : Answer :=
  .next s

end Sys2Proof.Machine
end

