-- ==== Sys2Proof/Machine/CommandWrite.lean ====
section
/-! DEFINITION. WR.CMD: a write of the command register performs the command (45_channel_control.md R276). -/

namespace Sys2Proof.Machine

/-- R276: the rule that the command row of DATA names, within the write's one step (20_memory.md R69). -/
def execWrCmd (data : Word) (s : State) : Answer :=
  match decodeCommand data with
  | .nop => execNop s
  | .encBit bit => execEncBit bit s
  | .encPair pair => execEncPair pair s
  | .encByte byte => execEncByte byte s
  | .build => execBuild s
  | .start => execStart s
  | .rsvd67 op => execRsvd67 op s
  | .rsvd8F op => execRsvd8F op s

end Sys2Proof.Machine
end

