-- ==== Sys2Proof/Machine/Dispatch.lean ====
section
/-! DEFINITION. One arm per row of the opcode table. -/

namespace Sys2Proof.Machine

def exec (i : Instr) (s : State) : Host.Outcome State Fault Refusal :=
  match i with
  | .rdCtrl => Sys2Proof.Machine.execRdCtrl s
  | .wrCtrl data => Sys2Proof.Machine.execWrCtrl data s
  | .rdStatus => Sys2Proof.Machine.execRdStatus s
  | .wrStatus data => Sys2Proof.Machine.execWrStatus data s
  | .rdColor => Sys2Proof.Machine.execRdColor s
  | .wrColor data => Sys2Proof.Machine.execWrColor data s
  | .rdCmd => Sys2Proof.Machine.execRdCmd s
  | .wrCmd data => Sys2Proof.Machine.execWrCmd data s
  | .rdEncOut => Sys2Proof.Machine.execRdEncOut s
  | .wrEncOut data => Sys2Proof.Machine.execWrEncOut data s
  | .rdTxdata => Sys2Proof.Machine.execRdTxdata s
  | .wrTxdata data => Sys2Proof.Machine.execWrTxdata data s
  | .rdDmaAddr => Sys2Proof.Machine.execRdDmaAddr s
  | .wrDmaAddr data => Sys2Proof.Machine.execWrDmaAddr data s
  | .rdFrame k => Sys2Proof.Machine.execRdFrame k s
  | .wrFrame k data => Sys2Proof.Machine.execWrFrame k data s
  | .rdRsvd offset => Sys2Proof.Machine.execRdRsvd offset s
  | .wrRsvd offset data => Sys2Proof.Machine.execWrRsvd offset data s
  | .nop => Sys2Proof.Machine.execNop s
  | .encBit bit => Sys2Proof.Machine.execEncBit bit s
  | .encPair pair => Sys2Proof.Machine.execEncPair pair s
  | .encByte byte => Sys2Proof.Machine.execEncByte byte s
  | .build => Sys2Proof.Machine.execBuild s
  | .start => Sys2Proof.Machine.execStart s
  | .rsvd67 op => Sys2Proof.Machine.execRsvd67 op s
  | .rsvd8F op => Sys2Proof.Machine.execRsvd8F op s

end Sys2Proof.Machine
end

