-- ==== Sys2Proof/Machine/Step.lean ====
section
/-! DEFINITION. One step of the machine: the next agent's step of the schedule (00_scope.md R5). -/

namespace Sys2Proof.Machine

/-- The step of one event, taken in a state whose schedule has moved past it. `kept` is the state before that: a
refused access is not taken, and marks the run (00_scope.md R14, R16). -/
def runEvent (kept : State) (e : Event) (s : State) : Host.Outcome State Fault Refusal :=
  match e with
  | .bus acc =>
    match fetchAccess acc with
    | .ok i => exec i s
    | .error r => .next (kept.markRefused r)
  | .hostLoadByte addr => hostLoadByte addr s
  | .hostLoadWord addr => hostLoadWord addr s
  | .hostStoreByte addr value => hostStoreByte addr value s
  | .hostStoreWord addr value => hostStoreWord addr value s
  | .hostDelay atLeast drawn => hostDelay atLeast drawn s
  | .engine gap => engineStep gap s
  | .envFault cause => envFaultStep cause s
  | .reset => resetStep s
  | .dmaMapChange spans => dmaMapStep spans s

/-- The state whose schedule has moved past its first event. -/
def State.withSchedule (rest : List Event) (s : State) : State :=
  { s with schedule := rest }

/-- One step. A run marked refused has no step (log 4), an empty schedule is stuck (log 2). -/
def step (s : State) : Host.Outcome State Fault Refusal :=
  match s.refusedMark with
  | some r => .refused r
  | none =>
    match s.schedule with
    | [] => .fault .scheduleEmpty
    | e :: rest => runEvent s e (s.withSchedule rest)

/-- `s` with the host access of a table word as the very next step (log 14, log 15). A word that is no access leaves
`s` as it is. -/
def State.withFetchWord (s : State) (nbits w : Nat) : State :=
  match tableCodeWord nbits w with
  | none => s
  | some c => { s with schedule := eventOfWord c :: s.schedule, refusedMark := none }

end Sys2Proof.Machine
end

