-- ==== Sys2Proof/Machine/HostProgram.lean ====
section
/-! DEFINITION. The host's notation (30_encoding.md R105, R106): accesses as scheduled steps, pseudo-instructions that
have no loop, and what `await` and `bbs_send` compute from the words they read. Loops are the host's own control flow
(R106): a schedule is one of their unrollings. -/

namespace Sys2Proof.Machine

/-- The host address of a window offset (45_channel_control.md R298). Any base is taken, and the sum wraps at 2^32: the
model's choice (log 27). -/
def hostAddress (offset : BitVec 12) : Word :=
  Config.wseBase + offset.zeroExtend 32

/-- `rd REG`. -/
def rd (offset : BitVec 12) : Event :=
  .bus ⟨.w32, false, offset, 0#32⟩

/-- `wr REG, imm32`. -/
def wr (offset : BitVec 12) (data : Word) : Event :=
  .bus ⟨.w32, true, offset, data⟩

/-- `cmd X`. -/
def cmd (c : Command) : Event :=
  wr 0x00C#12 (encodeCommand c)

/-- `clrdone` (R106). -/
def clrdone : Event :=
  wr 0x004#12 0x00000008#32

/-- `clrerr` (R106). -/
def clrerr : Event :=
  wr 0x004#12 0x00000080#32

/-- The STATUS field STATE of a word read. -/
def readsTransmitting (status : Word) : Bool :=
  status.extractLsb' 0 2 == 1#2

/-- The result of `await` from the STATUS word that ended its loop: Ok, or Err(FAULT_CAUSE) (R106, 45 R289). FAULT is
tested first (60_exceptions.md R314). -/
def awaitResult (status : Word) : Except (BitVec 2) Unit :=
  if status.getLsbD 4 then .error (status.extractLsb' 5 2) else .ok ()

/-- The byte `bbs_send` hands to TXDATA from window word `w`: `(w >> 8*(j & 3)) & 0xFF` (R106). -/
def bbsByte (w : Word) (j : Nat) : Word :=
  (w >>> (8 * (j % 4))) &&& 0xFF#32

/-- A frame of bytes as a bit-banged host sends it with the given gaps: each write of TXDATA, then the shifter's step
(42_bitbanged_serial.md R187, R189). -/
def bbsFeed : List Byte → List Nat → List Event
  | v :: bytes, g :: gaps => wr 0x014#12 (v.zeroExtend 32) :: .engine g :: bbsFeed bytes gaps
  | _, _ => []

/-- The palette in the sequencer's order (60_exceptions.md R323). -/
def paletteColors (p : Palette) : List Color :=
  [p.red, p.green, p.blue, p.off]

/-- The COLOR word of a colour (10_state.md R36). -/
def colorWord (c : Color) : Word :=
  0#8 ++ c.r ++ c.g ++ c.b

/-- One round of the reference sequencer on a gap-free transport, its poll loop unrolled to the `n` engine steps of a
frame, then the inter-frame delay of at least `delay` ticks, of which the Env draws `drawn` (60_exceptions.md R323,
R324). -/
def sequencerRound (n delay : Nat) (c : Color) (drawn : Nat) : List Event :=
  [wr 0x008#12 (colorWord c), cmd .build, cmd .start] ++ List.replicate n (.engine 0) ++
    [rd 0x004#12, .hostDelay delay drawn]

/-- The reference sequencer over the palette, with a length drawn for each round's delay (60_exceptions.md R323, R324). -/
def sequencer (n delay : Nat) (p : Palette) (draws : List Nat) : List Event :=
  (List.zipWith (sequencerRound n delay) (paletteColors p) draws).flatten

/-- The sequencer of the source's scenario 1 on the pulse generator: 500 ms between frames (60_exceptions.md R324). -/
def scenarioOne (p : Palette) (draws : List Nat) : List Event :=
  wr 0x000#12 0x2#32 :: sequencer Config.pgFrameLen Config.scenarioDelay p draws

end Sys2Proof.Machine
end

