-- ==== Sys2Proof/Safety.lean ====
section
/-! DEFINITION. What counts as a good state, a good run and a good schedule, in the words claims use: the invariant of
10_state.md R49, the premises of 00_scope.md R16, 45_channel_control.md R283, 60_exceptions.md R304, R328 and
70_reset_and_hazards.md R346, and the open timing bounds. -/

namespace Sys2Proof.Machine

/-- The instruction an event performs: the access's row, and for a write of CMD the command's row (30_encoding.md
R104). Events of other agents, and refused accesses, perform none. -/
def performedBy : Event → Option Instr
  | .bus acc =>
    if acc.width = .w32 then
      match decodePerformed (accessWord acc.write acc.offset) acc.data with
      | .ok i => some i
      | .error _ => none
    else none
  | .hostLoadByte _ => none
  | .hostLoadWord _ => none
  | .hostStoreByte _ _ => none
  | .hostStoreWord _ _ => none
  | .hostDelay _ _ => none
  | .engine _ => none
  | .envFault _ => none
  | .reset => none
  | .dmaMapChange _ => none

/-- The invariant: 10_state.md R49 with the facts of R28 to R47 that it rests on. Its bullets on TX_INDEX and on
accepted bytes speak of the BACKEND of the current or last frame (R35), in every state (log 11, log 12). -/
structure WseInv (s : State) : Prop where
  /-- The memory keeps its canonical form. -/
  memoryWf : Memory.wf s.memory = true
  /-- R40: DMA_ADDR is word-aligned. -/
  dmaAligned : s.dmaAddr.extractLsb' 0 2 = 0#2
  /-- R49: FAULT = 1 iff STATE = Faulted. -/
  faultIffFaulted : s.fault = true ↔ s.chan = .faulted
  /-- R49: FAULT_CAUSE ≠ 0 iff FAULT = 1. -/
  causeIffFault : s.faultCause ≠ .none ↔ s.fault = true
  /-- R49: BUSY = 1 implies STATE = Transmitting and BACKEND ∈ {BBS, DMA}. -/
  busyMode : s.busy = true → s.chan = .transmitting ∧ s.backend ≠ .pg
  /-- 43_dma_serial.md R211: in DMA mode BUSY is 1 for the whole transfer. -/
  dmaBusy : s.chan = .transmitting → s.backend = .dma → s.busy = true
  /-- While a frame is open it is of the current BACKEND, which is locked (45_channel_control.md R272). -/
  frameMode : s.chan = .transmitting → s.frameBackend = s.backend
  /-- R49: in a BBS frame, and after it, the bytes accepted since START are TX_INDEX + BUSY. -/
  accepted : s.frameBackend = .bbs → s.chan ≠ .faulted →
    s.bytesAccepted = s.txIndex.toNat + s.busy.toNat
  /-- R49 after a fault, which clears BUSY: the byte that the fault may have cut short is accepted and not in TX_INDEX. -/
  acceptedFaulted : s.frameBackend = .bbs → s.chan = .faulted →
    s.bytesAccepted = s.txIndex.toNat ∨ s.bytesAccepted = s.txIndex.toNat + 1
  /-- No TXDATA byte is accepted in a DMA or PG frame. -/
  acceptedNone : s.frameBackend ≠ .bbs → s.bytesAccepted = 0
  /-- R34, R49: a valid FRAME is a frame that BUILD makes under BACKEND. -/
  frameBuilt : s.frameValid = true → ∃ c, s.frame = buildFrame s.backend c
  /-- R49: Transmitting in DMA or PG mode implies FRAME_VALID = 1. -/
  frameNeeded : s.chan = .transmitting → s.backend ≠ .bbs → s.frameValid = true
  /-- R35: while a frame is open, fewer units than its length have been emitted. -/
  txInFrame : s.chan = .transmitting → s.txIndex.toNat < frameLen s.backend
  /-- R35, R49: TX_INDEX is at most 33 for a BBS or DMA frame, and at most 25 for a PG frame. -/
  txBound : s.txIndex.toNat ≤ frameLen s.frameBackend
  /-- R47: LINE is L between steps. -/
  lineLow : s.line = .low
  /-- R328: the model faults form a set. -/
  modelFaultsOnce : s.modelFaults.Nodup

/-- What R305 lists, for an instruction that an access performs. -/
def Rejects (i : Instr) (s : State) : Prop :=
  (i = .start ∧ s.chan ≠ .idle) ∨
  (i = .start ∧ s.backend ≠ .bbs ∧ s.frameValid = false) ∨
  (i = .build ∧ s.chan ≠ .idle) ∨
  ((∃ data, i = .wrTxdata data) ∧ ¬(s.backend = .bbs ∧ s.chan = .transmitting)) ∨
  (∃ op, i = .rsvd67 op) ∨ (∃ op, i = .rsvd8F op)

/-- The clean-entry premise (70_reset_and_hazards.md R346), less the launch premises of R343, which lie outside WSE. That "no
model fault is recorded" is read of the set as it stands now, and not of what earlier resets put away, is the model's choice
(log 26); `GoodSoFar` reads both. -/
def CleanEntry (s : State) : Prop :=
  s.chan = .idle ∧ s.fault = false ∧ s.modelFaults = [] ∧ s.refusedMark = none

/-- 00_scope.md R16: no WSE fault, no model fault, no refusal so far, earlier resets included. A frame that a reset cut
short is no fault. -/
def GoodSoFar (s : State) : Prop :=
  s.fault = false ∧ s.modelFaults = [] ∧ s.refusedMark = none ∧ ∀ e ∈ s.past, e.fault = false ∧ e.modelFaults = []

/-! ### Runs on an endless schedule, and the fairness of the Engine (45_channel_control.md R283) -/

/-- The run from `s` whose step number `n` is that of the event `σ n`, after `n` steps. -/
def runOn (σ : Nat → Event) (s : State) : Nat → Answer
  | 0 => .next s
  | n + 1 =>
    match runOn σ s n with
    | .next t => step (t.withSchedule [σ n])
    | .fault r => .fault r
    | .refused r => .refused r

/-- The run has a step for every event. -/
def GoesOn (σ : Nat → Event) (s : State) : Prop :=
  ∀ n, ∃ t, runOn σ s n = .next t

/-- An engine step is enabled (42 R181, 43 R212, 44 R241). -/
def EngineEnabled (s : State) : Prop :=
  ∃ t, engineStep 0 s = .next t

/-- R283: the Engine is weakly fair. An engine step that is enabled forever from some point on is taken. -/
def WeaklyFair (σ : Nat → Event) (s : State) : Prop :=
  ∀ n, (∀ m, n ≤ m → ∃ t, runOn σ s m = .next t ∧ EngineEnabled t) → ∃ m, n ≤ m ∧ ∃ gap, σ m = .engine gap

/-- R283: in BBS mode the host's own progress is needed. Whenever a frame waits for a byte, the host later writes one. -/
def HostFeeds (σ : Nat → Event) (s : State) : Prop :=
  ∀ n t, runOn σ s n = .next t → t.chan = .transmitting → t.backend = .bbs → t.busy = false →
    ∃ m, n ≤ m ∧ ∃ data, performedBy (σ m) = some (.wrTxdata data)

/-- R283: a run in which the frame in flight meets no fault and no reset. -/
def Undisturbed (σ : Nat → Event) (s : State) : Prop :=
  (∀ n, σ n ≠ .reset) ∧ ∀ n t, runOn σ s n = .next t → t.fault = false

/-- `NoEnvFault` (60_exceptions.md R304): the schedule takes no Env fault step. -/
def NoEnvFault (schedule : List Event) : Prop :=
  ∀ e ∈ schedule, ∀ cause, e ≠ .envFault cause

/-- 70_reset_and_hazards.md R348: every gap inside bytes 0 to 11 is at most MAX_GAP. `gaps` has the gap before byte j at
place j; the gap before byte 0 lies outside the frame. -/
def GapsWithin (gaps : List Nat) : Prop :=
  ∀ j, 1 ≤ j → j < Config.serDataLen → gaps.getD j 0 ≤ Config.maxGap

/-- Whether a receiver takes a phase of `ticks` for one of `nominal` ticks (00_scope.md R11, log 20). -/
def withinTolerance (ticks nominal : Nat) : Prop :=
  ticks ≤ nominal + Config.rxTolerance ∧ nominal ≤ ticks + Config.rxTolerance

end Sys2Proof.Machine
end

