-- ==== Sys2Proof/Certificates/Slice0/Obligations.lean ====
section
/-! DEFINITION. The statements for the provers. -/

open Sys2Proof Sys2Proof.Machine

/-! ### Decoding and encoding -/

/-- 30_encoding.md R98 to R104: decoding the word of a well-formed instruction gives the instruction back, for every
row of the table and every operand. -/
def Obligations.DecodeOfEncodeIsIdentity : Prop :=
  ∀ i : Instr, i.wf = true → decode (encode i) = .ok i

/-- 30_encoding.md R103, R104: an access word that decodes gives a well-formed instruction whose word is that access
word; no bit of it, and no bit of a write's DATA, is dropped. -/
def Obligations.EncodeOfDecodedAccessRestoresIt : Prop :=
  ∀ (a : BitVec 13) (data : Word) (i : Instr), decodeAccess a data = .ok i →
    i.wf = true ∧ encode i = .bus a (if a.getLsbD 12 then data else 0#32)

/-- R104: decoding refuses a misaligned access, otherwise takes the first matching BUS row of the table, and for WR.CMD
goes on to the one command row that DATA matches. -/
def Obligations.DecodeTakesFirstMatchingRow : Prop :=
  ∀ (a : BitVec 13) (data w : Word),
    (a.extractLsb' 0 2 ≠ 0#2 → decodeAccess a data = .error .misalignedAccess) ∧
    (a.extractLsb' 0 2 = 0#2 → ∃ i, decodeAccess a data = .ok i ∧
      busRows.findIdx? (fun r => a &&& r.1 == r.2) = some i.row) ∧
    (decodeAccess a data = .ok (.wrCmd data) → decodePerformed a data = .ok (decodeCommand data).toInstr) ∧
    (∃ k, commandRows.findIdx? (fun r => w &&& r.1 == r.2) = some k ∧ (decodeCommand w).toInstr.row = 18 + k) ∧
    (commandRows.filter (fun r => w &&& r.1 == r.2)).length = 1

/-- R102 with the formats of R98: two command words that agree on the bits their format uses perform the same command. -/
def Obligations.UnusedCommandBitsIgnored : Prop :=
  ∀ (w w' : Word) (s : State), w.extractLsb' 0 4 = w'.extractLsb' 0 4 →
    (w.extractLsb' 0 4 = 1#4 → w.getLsbD 4 = w'.getLsbD 4) →
    (w.extractLsb' 0 4 = 2#4 → w.extractLsb' 4 2 = w'.extractLsb' 4 2) →
    (w.extractLsb' 0 4 = 3#4 → w.extractLsb' 8 8 = w'.extractLsb' 8 8) →
    exec (.wrCmd w) s = exec (.wrCmd w') s

/-- Words written out from 10_state.md R23 and 30_encoding.md R98, R105 decode to what they stand for. -/
def Obligations.SampleWordsDecode : Prop :=
  decode (.bus 0b0000000000100#13 0#32) = .ok .rdStatus ∧
  decode (.bus 0b1000000001000#13 0x00FF0000#32) = .ok (.wrColor 0x00FF0000#32) ∧
  decode (.bus 0b1000000001100#13 0x0000A503#32) = .ok (.wrCmd 0x0000A503#32) ∧
  decode (.bus 0b1000000010100#13 0x88#32) = .ok (.wrTxdata 0x88#32) ∧
  decode (.bus 0b0000101100000#13 0#32) = .ok (.rdFrame 24#5) ∧
  decode (.bus 0b0111111111100#13 0#32) = .ok (.rdRsvd 0xFFC#12) ∧
  decode (.bus 0b0000000000010#13 0#32) = .error .misalignedAccess ∧
  decode (.cmd 0x00000011#32) = .ok (.encBit .one) ∧
  decode (.cmd 0x00000022#32) = .ok (.encPair 2#2) ∧
  decode (.cmd 0x0000A503#32) = .ok (.encByte 0xA5#8) ∧
  decode (.cmd 0xFFFF0004#32) = .ok .build ∧
  decode (.cmd 0x00000005#32) = .ok .start ∧
  decode (.cmd 0x0000000F#32) = .ok (.rsvd8F 7#3)

/-! ### The step -/

/-- 45_channel_control.md R270: a scheduled 32-bit access runs the instruction it decodes to, in the state whose
schedule has moved past it; an access placed by withFetchWord is the very next step; each of the other events is the step
of its agent. A host wait takes any length from what the host asked for upwards (60 R324), and a change of the DMA map
(43 R213) changes that alone. The schedule, the count of waited ticks and the map are the model's (log 1, log 7, log 18). -/
def Obligations.StepRunsTheScheduledInstruction : Prop :=
  (∀ (s : State) (acc : BusAccess) (rest : List Event) (i : Instr),
    s.refusedMark = none → s.schedule = .bus acc :: rest → acc.width = .w32 →
    decodeAccess (accessWord acc.write acc.offset) acc.data = .ok i →
    step s = exec i { s with schedule := rest }) ∧
  (∀ (s : State) (nbits w : Nat) (i : Instr), decodeTableWord nbits w = some i →
    step (s.withFetchWord nbits w) = exec i { s with refusedMark := none }) ∧
  (∀ (s : State) (rest : List Event) (gap : Nat), s.refusedMark = none → s.schedule = .engine gap :: rest →
    step s = engineStep gap { s with schedule := rest }) ∧
  (∀ (s : State) (rest : List Event) (cause : FaultCause), s.refusedMark = none →
    s.schedule = .envFault cause :: rest → step s = envFaultStep cause { s with schedule := rest }) ∧
  (∀ (s : State) (rest : List Event), s.refusedMark = none → s.schedule = .reset :: rest →
    step s = .next ({ s with schedule := rest }).blockReset) ∧
  (∀ (s : State) (rest : List Event) (addr : Word), s.refusedMark = none → s.schedule = .hostLoadByte addr :: rest →
    step s = hostLoadByte addr { s with schedule := rest }) ∧
  (∀ (s : State) (rest : List Event) (addr : Word), s.refusedMark = none → s.schedule = .hostLoadWord addr :: rest →
    step s = hostLoadWord addr { s with schedule := rest }) ∧
  (∀ (s : State) (rest : List Event) (addr : Word) (v : Byte), s.refusedMark = none →
    s.schedule = .hostStoreByte addr v :: rest → step s = hostStoreByte addr v { s with schedule := rest }) ∧
  (∀ (s : State) (rest : List Event) (addr w : Word), s.refusedMark = none →
    s.schedule = .hostStoreWord addr w :: rest → step s = hostStoreWord addr w { s with schedule := rest }) ∧
  (∀ (s : State) (rest : List Event) (atLeast drawn : Nat), s.refusedMark = none →
    s.schedule = .hostDelay atLeast drawn :: rest →
    (atLeast ≤ drawn → step s = .next { s with schedule := rest, hostWaited := s.hostWaited + drawn }) ∧
    (drawn < atLeast → step s = .fault .hostDelayTooShort)) ∧
  (∀ (s : State) (rest : List Event) (spans : List Span), s.refusedMark = none →
    s.schedule = .dmaMapChange spans :: rest → step s = .next { s with schedule := rest, dmaMap := spans })

/-- 20_memory.md R61, R62: an access that is not 32 bits wide, or not aligned, marks the run refused with its reason,
changes nothing else, and no step follows. That the mark is one step and the stop the next is the model's choice
(log 4). -/
def Obligations.IllFormedAccessRefusesTheRun : Prop :=
  ∀ (s : State) (acc : BusAccess) (rest : List Event), s.refusedMark = none → s.schedule = .bus acc :: rest →
    (acc.width ≠ .w32 →
      step s = .next { s with refusedMark := some .subwordAccess } ∧
      step { s with refusedMark := some .subwordAccess } = .refused .subwordAccess) ∧
    (acc.width = .w32 → acc.offset.toNat % 4 ≠ 0 →
      step s = .next { s with refusedMark := some .misalignedAccess } ∧
      step { s with refusedMark := some .misalignedAccess } = .refused .misalignedAccess)

/-! ### Register reads -/

/-- R271: the access W = 0, OFFSET = 0x000 reads CTRL as IRQ_EN at bit 2 and BACKEND at bits 1:0; bits 31:3 are 0, and
nothing but the host's data changes, in every state. -/
def Obligations.ReadControlWord : Prop :=
  decodeAccess (accessWord false 0x000#12) 0#32 = .ok .rdCtrl ∧
  ∀ s : State, exec .rdCtrl s = .next { s with
    hostData := 0#29 ++ BitVec.ofBool s.irqEn ++
      (match s.backend with | .bbs => 0#2 | .dma => 1#2 | .pg => 2#2) }

/-- R273: the access W = 0, OFFSET = 0x004 reads STATUS with every field at its bits; the reserved bits 15:9 and 31:22
are 0, and reading clears nothing. -/
def Obligations.ReadStatusWord : Prop :=
  decodeAccess (accessWord false 0x004#12) 0#32 = .ok .rdStatus ∧
  ∀ s : State, exec .rdStatus s = .next { s with
    hostData := 0#10 ++ s.txIndex ++ 0#7 ++ BitVec.ofBool s.frameValid ++ BitVec.ofBool s.cmdErr ++
      (match s.faultCause with | .none => 0#2 | .busyViolation => 1#2 | .bufferOverrun => 2#2 | .transferAbort => 3#2) ++
      BitVec.ofBool s.fault ++ BitVec.ofBool s.done ++ BitVec.ofBool s.busy ++
      (match s.chan with | .idle => 0#2 | .transmitting => 1#2 | .faulted => 2#2) }

/-- R275, R277, R284, R285, R287, R288: the offsets of the other registers and the reserved offsets, and what they read
as; nothing else changes. DMA_ADDR has bits 1:0 zero in every state that meets the invariant. -/
def Obligations.ReadOtherRegisters : Prop :=
  decodeAccess (accessWord false 0x008#12) 0#32 = .ok .rdColor ∧
  decodeAccess (accessWord false 0x00C#12) 0#32 = .ok .rdCmd ∧
  decodeAccess (accessWord false 0x010#12) 0#32 = .ok .rdEncOut ∧
  decodeAccess (accessWord false 0x014#12) 0#32 = .ok .rdTxdata ∧
  decodeAccess (accessWord false 0x018#12) 0#32 = .ok .rdDmaAddr ∧
  (∀ offset : BitVec 12, offset.toNat % 4 = 0 →
    ((0x01C ≤ offset.toNat ∧ offset.toNat ≤ 0x0FC) ∨ 0x180 ≤ offset.toNat) →
    decodeAccess (accessWord false offset) 0#32 = .ok (.rdRsvd offset)) ∧
  ∀ s : State,
    exec .rdColor s = .next { s with hostData := 0#8 ++ s.color } ∧
    exec .rdCmd s = .next { s with hostData := 0#32 } ∧
    exec .rdEncOut s = .next { s with hostData := s.encOut } ∧
    exec .rdTxdata s = .next { s with hostData := 0#32 } ∧
    exec .rdDmaAddr s = .next { s with hostData := s.dmaAddr } ∧
    (WseInv s → s.dmaAddr.extractLsb' 0 2 = 0#2) ∧
    ∀ offset, exec (.rdRsvd offset) s = .next { s with hostData := 0#32 }

/-- R158: a read of FRAME window word k, at offset 0x100 + 4k. An invalid frame reads 0; a pulse frame reads its packed descriptor k below 25
and 0 above; lane j of a serial frame reads byte 4k + j below 33 and 0 above. -/
def Obligations.ReadFrameWindow : Prop :=
  (∀ k : BitVec 5, decodeAccess (accessWord false (BitVec.ofNat 12 (0x100 + 4 * k.toNat))) 0#32 = .ok (.rdFrame k)) ∧
  ∀ (s : State) (k : BitVec 5), ∃ v, exec (.rdFrame k) s = .next { s with hostData := v } ∧
    (s.frameValid = false → v = 0#32) ∧
    (∀ d, s.frameValid = true → s.frame = .pg d →
      (∀ x, k.toNat < 25 → d[k.toNat]? = some x → v = pack x) ∧ (25 ≤ k.toNat → v = 0#32)) ∧
    (∀ b, s.frameValid = true → s.frame = .ser b → ∀ j, j < 4 →
      v.extractLsb' (8 * j) 8 = if 4 * k.toNat + j < 33 then b.getD (4 * k.toNat + j) 0#8 else 0#8)

/-- R92: where a packed descriptor's fields stand, that unpacking gives it back, and that the lengths of every
descriptor WSE makes are at most 4000. -/
def Obligations.PackPlacesDescriptorFields : Prop :=
  (∀ d : Descriptor,
    (pack d).extractLsb' 0 15 = d.length1 ∧ (pack d).getLsbD 15 = d.level1 ∧
    (pack d).extractLsb' 16 15 = d.length2 ∧ (pack d).getLsbD 31 = d.level2 ∧ unpack (pack d) = d) ∧
  ∀ (c : Color), ∀ d ∈ buildFramePG c, d.length1.toNat ≤ 4000 ∧ d.length2.toNat ≤ 4000

/-! ### Register writes -/

/-- R272: a CTRL write (W = 1, OFFSET = 0x000) takes IRQ_EN always, and BACKEND only in Idle and only for 0, 1 and 2; a change of BACKEND clears
FRAME_VALID. Nothing else changes. -/
def Obligations.WriteControl : Prop :=
  ∀ (s : State) (data : Word),
    decodeAccess (accessWord true 0x000#12) data = .ok (.wrCtrl data) ∧
    (∀ nb : Backend, s.chan = .idle →
      data.extractLsb' 0 2 = (match nb with | .bbs => 0#2 | .dma => 1#2 | .pg => 2#2) →
      exec (.wrCtrl data) s = .next { s with
        irqEn := data.getLsbD 2, backend := nb, frameValid := if nb = s.backend then s.frameValid else false }) ∧
    (s.chan ≠ .idle ∨ data.extractLsb' 0 2 = 3#2 →
      exec (.wrCtrl data) s = .next { s with irqEn := data.getLsbD 2 })

/-- R274: a STATUS write (W = 1, OFFSET = 0x004) clears DONE where bit 3 is 1 and CMD_ERR where bit 7 is 1 and changes nothing else; clearing
DONE deasserts the interrupt unless FAULT = 1. -/
def Obligations.WriteStatusClears : Prop :=
  ∀ (s : State) (data : Word), decodeAccess (accessWord true 0x004#12) data = .ok (.wrStatus data) ∧
    ∃ t, exec (.wrStatus data) s = .next t ∧
    t = { s with
      done := if data.getLsbD 3 then false else s.done, cmdErr := if data.getLsbD 7 then false else s.cmdErr } ∧
    (data.getLsbD 3 = true → s.fault = false → t.irq = false)

/-- R292: a COLOR write (W = 1, OFFSET = 0x008) takes bits 23:0 in every state, the colour BUILD will read has its fields at R's bits, the write
is idempotent, and nothing else changes. -/
def Obligations.WriteColor : Prop :=
  ∀ (s : State) (data : Word), decodeAccess (accessWord true 0x008#12) data = .ok (.wrColor data) ∧
    ∃ t, exec (.wrColor data) s = .next t ∧
    t = { s with color := data.extractLsb' 0 24 } ∧
    t.buildColor = ⟨data.extractLsb' 16 8, data.extractLsb' 8 8, data.extractLsb' 0 8⟩ ∧
    exec (.wrColor data) t = .next t

/-- R286: a DMA_ADDR write (W = 1, OFFSET = 0x018) is ignored while Transmitting; otherwise it takes bits 31:2, and in DMA mode clears
FRAME_VALID. Nothing else changes, CMD_ERR included. -/
def Obligations.WriteDmaAddress : Prop :=
  ∀ (s : State) (data : Word),
    decodeAccess (accessWord true 0x018#12) data = .ok (.wrDmaAddr data) ∧
    (s.chan = .transmitting → exec (.wrDmaAddr data) s = .next s) ∧
    (s.chan ≠ .transmitting → exec (.wrDmaAddr data) s = .next { s with
      dmaAddr := data.extractLsb' 2 30 ++ 0#2, frameValid := if s.backend = .dma then false else s.frameValid })

/-- R293, R159, R294: writes of ENC_OUT, of the FRAME window and of the reserved offsets change nothing; and only BUILD, or a
reset, which leaves it unspecified (R50), changes FRAME. -/
def Obligations.IgnoredWritesChangeNothing : Prop :=
  (∀ data, decodeAccess (accessWord true 0x010#12) data = .ok (.wrEncOut data)) ∧
  (∀ (k : BitVec 5) (data : Word),
    decodeAccess (accessWord true (BitVec.ofNat 12 (0x100 + 4 * k.toNat))) data = .ok (.wrFrame k data)) ∧
  (∀ (offset : BitVec 12) (data : Word), offset.toNat % 4 = 0 →
    ((0x01C ≤ offset.toNat ∧ offset.toNat ≤ 0x0FC) ∨ 0x180 ≤ offset.toNat) →
    decodeAccess (accessWord true offset) data = .ok (.wrRsvd offset data)) ∧
  (∀ (s : State) (data : Word), exec (.wrEncOut data) s = .next s ∧
    (∀ k, exec (.wrFrame k data) s = .next s) ∧ ∀ offset, exec (.wrRsvd offset data) s = .next s) ∧
  ∀ (s t : State) (e : Event) (rest : List Event), s.schedule = e :: rest → step s = .next t → t.frame ≠ s.frame →
    e = .reset ∨ performedBy e = some .build

/-- R184: a TXDATA write (W = 1, OFFSET = 0x014) is rejected outside BBS Transmitting, faults with BUSY_VIOLATION while BUSY = 1, and otherwise
latches DATA[7:0]. Nothing else of the machine changes; the count of accepted bytes is the model's own (log 12). -/
def Obligations.WriteTxdata : Prop :=
  ∀ (s : State) (data : Word),
    decodeAccess (accessWord true 0x014#12) data = .ok (.wrTxdata data) ∧
    (¬(s.backend = .bbs ∧ s.chan = .transmitting) → exec (.wrTxdata data) s = .next { s with cmdErr := true }) ∧
    (s.backend = .bbs → s.chan = .transmitting → s.busy = true →
      exec (.wrTxdata data) s = .next { s with
        trace := s.trace ++ [.abort], chan := .faulted, fault := true, faultCause := .busyViolation
        busy := false, line := .low }) ∧
    (s.backend = .bbs → s.chan = .transmitting → s.busy = false →
      exec (.wrTxdata data) s = .next { s with
        shByte := data.extractLsb' 0 8, busy := true, bytesAccepted := s.bytesAccepted + 1 })

/-- R276: a write of CMD (W = 1, OFFSET = 0x00C) performs, in its one step, the command that OP = DATA[3:0] names, with the operands of R100, and
always answers a next state. BUILD in Idle shows it with its effect. -/
def Obligations.WriteCommandPerformsIt : Prop :=
  ∀ (s : State) (w : Word),
    decodeAccess (accessWord true 0x00C#12) w = .ok (.wrCmd w) ∧
    (w.extractLsb' 0 4 = 0#4 → exec (.wrCmd w) s = exec .nop s) ∧
    (w.extractLsb' 0 4 = 1#4 → exec (.wrCmd w) s = exec (.encBit (if w.getLsbD 4 then .one else .zero)) s) ∧
    (w.extractLsb' 0 4 = 2#4 → exec (.wrCmd w) s = exec (.encPair (w.extractLsb' 4 2)) s) ∧
    (w.extractLsb' 0 4 = 3#4 → exec (.wrCmd w) s = exec (.encByte (w.extractLsb' 8 8)) s) ∧
    (w.extractLsb' 0 4 = 4#4 → exec (.wrCmd w) s = exec .build s) ∧
    (w.extractLsb' 0 4 = 5#4 → exec (.wrCmd w) s = exec .start s) ∧
    (6 ≤ (w.extractLsb' 0 4).toNat → exec (.wrCmd w) s = .next { s with cmdErr := true }) ∧
    (∃ t, exec (.wrCmd w) s = .next t) ∧
    (w.extractLsb' 0 4 = 4#4 → s.chan = .idle → s.backend ≠ .dma →
      exec (.wrCmd w) s = .next { s with
        frame := buildFrame s.backend (colorOf s.color), frameValid := true })

/-! ### Commands -/

/-- R278, R279: any word with OP = 0 is NOP, and NOP changes nothing; a word with OP = 0x6 to 0xF is a reserved command,
which sets CMD_ERR and changes nothing else, in every state. -/
def Obligations.NopAndReservedCommands : Prop :=
  (∀ w : Word, w.extractLsb' 0 4 = 0#4 → decode (.cmd w) = .ok .nop) ∧
  (∀ w : Word, 6 ≤ (w.extractLsb' 0 4).toNat →
    (∃ op, decode (.cmd w) = .ok (.rsvd67 op)) ∨ ∃ op, decode (.cmd w) = .ok (.rsvd8F op)) ∧
  ∀ s : State, exec .nop s = .next s ∧
    (∀ op, exec (.rsvd67 op) s = .next { s with cmdErr := true }) ∧
    ∀ op, exec (.rsvd8F op) s = .next { s with cmdErr := true }

/-- R129: a word with OP = 1 is ENC_BIT with BIT = bit 4, and ENC_BIT puts the packed descriptor of its bit into
ENC_OUT, in every state, and changes nothing else. -/
def Obligations.EncodeBitCommand : Prop :=
  (∀ w : Word, w.extractLsb' 0 4 = 1#4 → decode (.cmd w) = .ok (.encBit (if w.getLsbD 4 then .one else .zero))) ∧
  (∀ (s : State) (b : BitValue), exec (.encBit b) s = .next { s with encOut := pack (encodeBitPulse b) }) ∧
  ∀ s : State, exec (.encBit .one) s = .next { s with encOut := 0x00208044#32 } ∧
    exec (.encBit .zero) s = .next { s with encOut := 0x00448020#32 }

/-- R130 with the table of R93: a word with OP = 2 is ENC_PAIR with PAIR = bits 5:4, and ENC_PAIR puts its window's
pattern byte into ENC_OUT, in every state, and changes nothing else. -/
def Obligations.EncodePairCommand : Prop :=
  (∀ w : Word, w.extractLsb' 0 4 = 2#4 → decode (.cmd w) = .ok (.encPair (w.extractLsb' 4 2))) ∧
  ∀ s : State, exec (.encPair 0#2) s = .next { s with encOut := 0x00000088#32 } ∧
    exec (.encPair 1#2) s = .next { s with encOut := 0x0000008E#32 } ∧
    exec (.encPair 2#2) s = .next { s with encOut := 0x000000E8#32 } ∧
    exec (.encPair 3#2) s = .next { s with encOut := 0x000000EE#32 }

/-- R131, R296: a word with OP = 3 is ENC_BYTE with BYTE = bits 15:8, and ENC_BYTE puts into lane k of ENC_OUT the pattern of the window BYTE[7-2k : 6-2k], each lane on its own,
and changes nothing else. -/
def Obligations.EncodeByteLanes : Prop :=
  (∀ w : Word, w.extractLsb' 0 4 = 3#4 → decode (.cmd w) = .ok (.encByte (w.extractLsb' 8 8))) ∧
  ∀ (s : State) (b : Byte), ∃ v, exec (.encByte b) s = .next { s with encOut := v } ∧
    ∀ k, k < 4 → v.extractLsb' (8 * k) 8 = patternByte (b.extractLsb' (6 - 2 * k) 2)

/-- R156: a word with OP = 4 is BUILD, and BUILD, every branch: rejected outside Idle; the pulse frame, or the serial
frame, of COLOR under BACKEND and FRAME_VALID <- 1; in DMA mode the 33 bytes go to memory first, or TRANSFER_ABORT is
taken with no byte written. In each branch nothing else changes. -/
def Obligations.BuildFrameCommand : Prop :=
  (∀ w : Word, w.extractLsb' 0 4 = 4#4 → decode (.cmd w) = .ok .build) ∧
  ∀ (s : State) (c : Color), c = ⟨s.color.extractLsb' 16 8, s.color.extractLsb' 8 8, s.color.extractLsb' 0 8⟩ →
    (s.chan ≠ .idle → exec .build s = .next { s with cmdErr := true }) ∧
    (s.chan = .idle → s.backend = .pg →
      exec .build s = .next { s with frame := .pg (buildFramePG c), frameValid := true }) ∧
    (s.chan = .idle → s.backend = .bbs →
      exec .build s = .next { s with frame := .ser (buildFrameSerial c), frameValid := true }) ∧
    (s.chan = .idle → s.backend = .dma → dmaAdmits s.dmaMap s.dmaAddr.toNat 33 = true →
      exec .build s = .next { s with
        memory := memWriteBytes s.memory s.dmaAddr.toNat (buildFrameSerial c)
        frame := .ser (buildFrameSerial c), frameValid := true }) ∧
    (s.chan = .idle → s.backend = .dma → dmaAdmits s.dmaMap s.dmaAddr.toNat 33 = false →
      exec .build s = .next { s with
        chan := .faulted, fault := true, faultCause := .transferAbort, busy := false, line := .low })

/-- R65, R71, R157: after an accepted BUILD in DMA mode, byte j of the buffer at DMA_ADDR reads as byte j of the serial
frame of COLOR, and every other byte of memory reads as before. -/
def Obligations.BuildWritesExactlyTheBuffer : Prop :=
  ∀ s : State, s.chan = .idle → s.backend = .dma → dmaAdmits s.dmaMap s.dmaAddr.toNat 33 = true →
    ∃ t, exec .build s = .next t ∧
      (∀ j, j < 33 → readCell t.memory (s.dmaAddr.toNat + j) = (buildFrameSerial (colorOf s.color))[j]?) ∧
      ∀ a, (a < s.dmaAddr.toNat ∨ s.dmaAddr.toNat + 33 ≤ a) → readCell t.memory a = readCell s.memory a

/-- R280 with R183, R210 and R240: a word with OP = 5 is START, and START is rejected outside Idle, and in DMA and PG
mode without a valid frame; otherwise STATE <- Transmitting, DONE <- 0, TX_INDEX <- 0, and BUSY as the transport says; in
DMA mode the buffer is then on loan. Nothing else changes; the count of accepted bytes and the note of the frame's BACKEND
are the model's own (log 12, log 11). -/
def Obligations.StartFrameCommand : Prop :=
  (∀ w : Word, w.extractLsb' 0 4 = 5#4 → decode (.cmd w) = .ok .start) ∧
  ∀ s : State,
    (s.chan ≠ .idle → exec .start s = .next { s with cmdErr := true }) ∧
    (s.chan = .idle → s.backend ≠ .bbs → s.frameValid = false →
      exec .start s = .next { s with cmdErr := true }) ∧
    (s.chan = .idle → s.backend = .bbs →
      exec .start s = .next { s with
        chan := .transmitting, done := false, txIndex := 0#6, busy := false, bytesAccepted := 0, frameBackend := .bbs }) ∧
    (s.chan = .idle → s.backend = .dma → s.frameValid = true →
      ∃ t, exec .start s = .next t ∧ t.onLoan = true ∧
        t = { s with
          chan := .transmitting, done := false, txIndex := 0#6, busy := true, bytesAccepted := 0, frameBackend := .dma }) ∧
    (s.chan = .idle → s.backend = .pg → s.frameValid = true →
      exec .start s = .next { s with
        chan := .transmitting, done := false, txIndex := 0#6, bytesAccepted := 0, frameBackend := .pg })

/-! ### The engines, faults and reset -/

/-- R180, R181: the shifter step emits the gap, then SH_BYTE bit 7 first at 25 ticks a bit, clears BUSY and counts the
byte; at the 33rd the frame completes. In BBS mode it is enabled exactly in Transmitting with BUSY = 1. Nothing else
changes. -/
def Obligations.ShifterStep : Prop :=
  ∀ (s : State) (gap : Nat), s.backend = .bbs →
    (¬(s.chan = .transmitting ∧ s.busy = true) → engineStep gap s = .fault .engineNotEnabled) ∧
    (s.chan = .transmitting → s.busy = true → engineStep gap s = .next { s with
      trace := s.trace ++ .seg .low gap ::
        ([7, 6, 5, 4, 3, 2, 1, 0].map fun i => .seg (if s.shByte.getLsbD i then .high else .low) 25)
      line := .low, busy := false, txIndex := s.txIndex + 1#6
      chan := if s.txIndex.toNat = 32 then .idle else .transmitting
      done := if s.txIndex.toNat = 32 then true else s.done })

/-- R212, R213: the DMA step reads the byte at DMA_ADDR + TX_INDEX, emits it with no gap and counts it; at the 33rd the
frame completes. An address that is not admitted is TRANSFER_ABORT with nothing emitted for the byte. In DMA mode it is
enabled exactly in Transmitting with TX_INDEX < 33. -/
def Obligations.DmaEngineStep : Prop :=
  ∀ (s : State) (gap : Nat), s.backend = .dma →
    (¬(s.chan = .transmitting ∧ s.txIndex.toNat < 33) → engineStep gap s = .fault .engineNotEnabled) ∧
    (s.chan = .transmitting → s.txIndex.toNat < 33 → dmaAdmits s.dmaMap (s.dmaAddr.toNat + s.txIndex.toNat) 1 = false →
      engineStep gap s = .next { s with
        trace := s.trace ++ [.abort], chan := .faulted, fault := true, faultCause := .transferAbort
        busy := false, line := .low }) ∧
    (s.chan = .transmitting → s.txIndex.toNat < 33 →
      dmaAdmits s.dmaMap (s.dmaAddr.toNat + s.txIndex.toNat) 1 = true →
      engineStep gap s = .next { s with
        trace := s.trace ++ serBits (memRead s.memory (s.dmaAddr.toNat + s.txIndex.toNat))
        line := .low, txIndex := s.txIndex + 1#6
        chan := if s.txIndex.toNat = 32 then .idle else .transmitting
        busy := if s.txIndex.toNat = 32 then false else s.busy
        done := if s.txIndex.toNat = 32 then true else s.done })

/-- R241: the pulse-generator step emits the two phases of descriptor TX_INDEX and counts it; at the 25th the frame
completes. In PG mode it is enabled exactly in Transmitting with TX_INDEX < 25. -/
def Obligations.PulseGeneratorStep : Prop :=
  ∀ (s : State) (gap : Nat), s.backend = .pg →
    (¬(s.chan = .transmitting ∧ s.txIndex.toNat < 25) → engineStep gap s = .fault .engineNotEnabled) ∧
    (∀ l x, s.chan = .transmitting → s.frame = .pg l → s.txIndex.toNat < 25 → l[s.txIndex.toNat]? = some x →
      engineStep gap s = .next { s with
        trace := s.trace ++ [.seg (levelOf x.level1) x.length1.toNat, .seg (levelOf x.level2) x.length2.toNat]
        line := levelOf x.level2, txIndex := s.txIndex + 1#6
        chan := if s.txIndex.toNat = 24 then .idle else .transmitting
        busy := if s.txIndex.toNat = 24 then false else s.busy
        done := if s.txIndex.toNat = 24 then true else s.done })

/-- 42 R181, 43 R212, 44 R241: in every state that meets the invariant an engine step answers a next state exactly when
STATE = Transmitting and, in BBS mode, BUSY = 1; otherwise the machine has no such step. And 45 R283: with a weakly fair
Engine a frame in flight that meets no fault and no reset completes, in BBS mode if the host goes on feeding it. The
endless schedule is the model's (log 1). -/
def Obligations.EngineEnabledExactly : Prop :=
  (∀ (s : State) (gap : Nat), WseInv s →
    ((s.chan = .transmitting ∧ (s.backend = .bbs → s.busy = true)) → ∃ t, engineStep gap s = .next t) ∧
    (¬(s.chan = .transmitting ∧ (s.backend = .bbs → s.busy = true)) → engineStep gap s = .fault .engineNotEnabled)) ∧
  (∀ (σ : Nat → Event) (s : State), WseInv s → s.chan = .transmitting → GoesOn σ s → Undisturbed σ s →
    WeaklyFair σ s → (s.backend = .bbs → HostFeeds σ s) →
    ∃ n t, runOn σ s n = .next t ∧ t.chan = .idle ∧ t.done = true ∧ t.backend = s.backend ∧
      t.txIndex.toNat = frameLen s.backend)

/-- R304: the Env fault step is enabled exactly in Transmitting, with BUFFER_OVERRUN or TRANSFER_ABORT in DMA mode and
TRANSFER_ABORT alone in the others, and it raises the cause drawn. -/
def Obligations.EnvFaultStep : Prop :=
  ∀ (s : State) (cause : FaultCause),
    (s.chan = .transmitting → (cause = .transferAbort ∨ (s.backend = .dma ∧ cause = .bufferOverrun)) →
      envFaultStep cause s = .next { s with
        trace := s.trace ++ [.abort], chan := .faulted, fault := true, faultCause := cause
        busy := false, line := .low }) ∧
    (¬(s.chan = .transmitting ∧ (cause = .transferAbort ∨ (s.backend = .dma ∧ cause = .bufferOverrun))) →
      envFaultStep cause s = .fault .envFaultNotEnabled)

/-- R306: fault entry appends X exactly in Transmitting, sets STATE, FAULT, FAULT_CAUSE, BUSY and LINE, and keeps all
else; no engine step is enabled after it, so the DMA loan ends; the interrupt is asserted if IRQ_EN = 1. -/
def Obligations.FaultEntryEffect : Prop :=
  ∀ (s : State) (cause : FaultCause),
    s.faultEntry cause = { s with
      trace := if s.chan = .transmitting then s.trace ++ [.abort] else s.trace
      chan := .faulted, fault := true, faultCause := cause, busy := false, line := .low } ∧
    (∀ gap, engineStep gap (s.faultEntry cause) = .fault .engineNotEnabled) ∧
    (s.faultEntry cause).onLoan = false ∧
    (s.irqEn = true → (s.faultEntry cause).irq = true)

/-- R50: the reset value of every piece of state the spec gives one, after power-on and after a reset of the running
machine in any state, system memory being left alone. FRAME and SH_BYTE are unspecified there, and nothing is said of
them. -/
def Obligations.ResetValues : Prop :=
  ∀ s : State, ∃ r, resetStep s = .next r ∧ r.memory = s.memory ∧ ∀ t, t = State.reset ∨ t = r →
    t.backend = .bbs ∧ t.irqEn = false ∧ t.chan = .idle ∧ t.busy = false ∧ t.done = false ∧ t.fault = false ∧
    t.faultCause = .none ∧ t.cmdErr = false ∧ t.frameValid = false ∧ t.txIndex = 0#6 ∧ t.color = 0#24 ∧
    t.encOut = 0#32 ∧ t.dmaAddr = 0#32 ∧ t.line = .low ∧ t.trace = [] ∧ t.irq = false ∧ t.modelFaults = [] ∧
    t.refusedMark = none

/-- R340 to R342: what the reset step does in every state. It keeps system memory, and what it puts away is the trace so
far, ended by X if a frame was in flight, with FAULT and the model faults so far. That these are put away in a list (log
10), and that the DMA map (log 7), the schedule (log 1), the host's data (log 5) and its waited ticks (log 18) stay, is the
model's choice; in a run that is refused no step is taken, a reset neither (log 4). -/
def Obligations.ResetStopsTheFrame : Prop :=
  ∀ s : State, ∃ t, resetStep s = .next t ∧ t.memory = s.memory ∧ t.dmaMap = s.dmaMap ∧ t.schedule = s.schedule ∧
    t.hostData = s.hostData ∧ t.hostWaited = s.hostWaited ∧ t.chan = .idle ∧ t.fault = false ∧ t.trace = [] ∧
    (s.chan = .transmitting → t.past = s.past ++ [⟨s.trace ++ [.abort], s.fault, s.modelFaults⟩]) ∧
    (s.chan ≠ .transmitting → t.past = s.past ++ [⟨s.trace, s.fault, s.modelFaults⟩])

/-- R216: a host store to any byte of the buffer while it is on loan records loan_violation; the store still happens, and
nothing else changes, STATUS included. Elsewhere, or without a loan, a store records nothing. The byte and word stores are
the model's events (log 16); that they act on memory at every address, admitted for DMA or not (log 24), at the window's
addresses too (log 25), is the model's choice. -/
def Obligations.HostStoreDuringLoan : Prop :=
  (∀ (s : State) (addr : Word) (v : Byte), ∃ t, hostStoreByte addr v s = .next t ∧
    t.statusWord = s.statusWord ∧
    (∀ a, readCell t.memory a = if a = addr.toNat then some v else readCell s.memory a) ∧
    t = { s with memory := t.memory, modelFaults := t.modelFaults } ∧
    (s.backend = .dma → s.chan = .transmitting →
      s.dmaAddr.toNat ≤ addr.toNat → addr.toNat ≤ s.dmaAddr.toNat + 32 → .loanViolation ∈ t.modelFaults) ∧
    (¬(s.backend = .dma ∧ s.chan = .transmitting ∧
      s.dmaAddr.toNat ≤ addr.toNat ∧ addr.toNat ≤ s.dmaAddr.toNat + 32) → t.modelFaults = s.modelFaults)) ∧
  (∀ (s : State) (addr w : Word), addr.toNat + 4 ≤ 2 ^ 32 → ∃ t, hostStoreWord addr w s = .next t ∧
    t.statusWord = s.statusWord ∧ t = { s with memory := t.memory, modelFaults := t.modelFaults } ∧
    (∀ j, j < 4 → readCell t.memory (addr.toNat + j) = some (w.extractLsb' (8 * j) 8)) ∧
    (∀ a, (a < addr.toNat ∨ addr.toNat + 4 ≤ a) → readCell t.memory a = readCell s.memory a) ∧
    (s.backend = .dma → s.chan = .transmitting →
      s.dmaAddr.toNat ≤ addr.toNat + 3 → addr.toNat ≤ s.dmaAddr.toNat + 32 → .loanViolation ∈ t.modelFaults) ∧
    (¬(s.backend = .dma ∧ s.chan = .transmitting ∧
      s.dmaAddr.toNat ≤ addr.toNat + 3 ∧ addr.toNat ≤ s.dmaAddr.toNat + 32) → t.modelFaults = s.modelFaults))

/-- 20_memory.md R63, R70: a host word store lays lane j at byte j, leaves every other byte, and a host word load of the
same address gives the word back, whatever the memory was; a host byte load gives the byte last written. A word that would
pass the top of the address space stops. The host's memory events are the model's (log 16); that they act on memory at every
address, admitted for DMA or not (log 24), at the window's addresses too (log 25), is the model's choice. -/
def Obligations.HostWordLanesLittleEndian : Prop :=
  (∀ (s : State) (addr w : Word), addr.toNat + 4 ≤ 2 ^ 32 →
    ∃ t, hostStoreWord addr w s = .next t ∧
      (∀ j, j < 4 → readCell t.memory (addr.toNat + j) = some (w.extractLsb' (8 * j) 8)) ∧
      (∀ a, (a < addr.toNat ∨ addr.toNat + 4 ≤ a) → readCell t.memory a = readCell s.memory a) ∧
      hostLoadWord addr t = .next { t with hostData := w }) ∧
  (∀ (s : State) (addr : Word) (v : Byte), readCell s.memory addr.toNat = some v →
    hostLoadByte addr s = .next { s with hostData := 0#24 ++ v }) ∧
  (∀ (s : State) (addr w : Word), 2 ^ 32 < addr.toNat + 4 →
    hostStoreWord addr w s = .fault .hostAddressOutsideMemory ∧ hostLoadWord addr s = .fault .hostAddressOutsideMemory)

/-- R311, R313: the interrupt is the level IRQ_EN ∧ (DONE ∨ FAULT), driven on the open host line irq_route. -/
def Obligations.InterruptLevel : Prop :=
  ∀ s : State, (s.irq = true ↔ s.irqEn = true ∧ (s.done = true ∨ s.fault = true)) ∧
    (s.irqLine = some Config.irqRoute ↔ s.irq = true)

/-- R312: a fault interrupt cannot be cleared except by masking or reset; a completion interrupt is cleared by a STATUS
write of bit 3 and by an accepted START; CTRL with bit 2 = 0 masks in every state; CMD_ERR never interrupts. -/
def Obligations.InterruptClearing : Prop :=
  (∀ (s t : State) (e : Event) (rest : List Event), s.schedule = e :: rest → step s = .next t →
    s.irq = true → s.fault = true → t.irq = false →
    e = .reset ∨ ∃ data, performedBy e = some (.wrCtrl data) ∧ data.getLsbD 2 = false) ∧
  (∀ (s : State) (data : Word), data.getLsbD 2 = false →
    ∃ t, exec (.wrCtrl data) s = .next t ∧ t.irq = false) ∧
  (∀ s : State, s.fault = false → ∃ t, exec (.wrStatus 0x8#32) s = .next t ∧ t.irq = false) ∧
  (∀ s t : State, s.fault = false → exec .start s = .next t → t.chan = .transmitting → s.chan = .idle → t.irq = false) ∧
  ∀ (s : State) (b : Bool), ({ s with cmdErr := b }).irq = s.irq

/-! ### The whole machine -/

/-- The invariant holds after power-on. -/
def Obligations.InvariantHoldsAtReset : Prop :=
  WseInv State.reset

/-- 10_state.md R49 and the facts it rests on are kept by every step of every agent, from every state that meets them,
whatever the schedule, faults and resets included. -/
def Obligations.StepKeepsTheInvariant : Prop :=
  ∀ s t : State, WseInv s → step s = .next t → WseInv t

/-- R281: STATE has exactly these transitions, each by its event. -/
def Obligations.StateTransitionsExactly : Prop :=
  ∀ (s t : State) (e : Event) (rest : List Event), WseInv s → s.schedule = e :: rest → step s = .next t →
    t.chan ≠ s.chan →
    (s.chan = .idle ∧ t.chan = .transmitting ∧ performedBy e = some .start ∧
      (s.backend ≠ .bbs → s.frameValid = true)) ∨
    (s.chan = .transmitting ∧ t.chan = .idle ∧ (∃ gap, e = .engine gap) ∧ t.txIndex.toNat = frameLen s.backend) ∨
    (s.chan = .transmitting ∧ t.chan = .faulted ∧ t.fault = true ∧ t.trace = s.trace ++ [.abort]) ∨
    (s.chan = .idle ∧ t.chan = .faulted ∧ performedBy e = some .build ∧ s.backend = .dma ∧
      dmaAdmits s.dmaMap s.dmaAddr.toNat 33 = false) ∨
    (e = .reset ∧ t.chan = .idle)

/-- R308: Faulted is left only by reset: any other step, a STATUS write included, keeps STATE, FAULT, FAULT_CAUSE and
what has been emitted. -/
def Obligations.FaultedIsLeftOnlyByReset : Prop :=
  ∀ (s t : State) (e : Event) (rest : List Event), WseInv s → s.chan = .faulted → s.schedule = e :: rest →
    step s = .next t → e ≠ .reset →
    t.chan = .faulted ∧ t.fault = true ∧ t.faultCause = s.faultCause ∧ t.trace = s.trace

/-- R310: in Faulted, START, BUILD and TXDATA are rejected and raise nothing; a TXDATA write in another mode is rejected,
not faulted, though BUSY = 1; in BBS Transmitting a busy TXDATA write faults, and a BUILD that memory would not admit is rejected, not faulted, while Transmitting. -/
def Obligations.CheckOrderInsideAnAccess : Prop :=
  ∀ (s : State) (data : Word),
    (s.chan ≠ .idle → s.frameValid = false → exec .start s = .next { s with cmdErr := true }) ∧
    (s.chan = .faulted →
      exec .start s = .next { s with cmdErr := true } ∧ exec .build s = .next { s with cmdErr := true } ∧
      exec (.wrTxdata data) s = .next { s with cmdErr := true }) ∧
    (s.chan = .transmitting → s.backend ≠ .bbs → s.busy = true →
      exec (.wrTxdata data) s = .next { s with cmdErr := true }) ∧
    (s.chan = .transmitting → s.backend = .bbs → s.busy = true →
      ∃ t, exec (.wrTxdata data) s = .next t ∧ t.faultCause = .busyViolation ∧ t.cmdErr = s.cmdErr) ∧
    (s.chan = .transmitting → s.backend = .dma → dmaAdmits s.dmaMap s.dmaAddr.toNat 33 = false →
      exec .build s = .next { s with cmdErr := true })

/-- R305: an access is rejected, CMD_ERR <- 1 and nothing else changed, exactly when R305 lists it; no other access sets
CMD_ERR. -/
def Obligations.RejectionExactly : Prop :=
  ∀ (e : Event) (i : Instr) (rest : List Event) (s : State), s.refusedMark = none → s.schedule = e :: rest →
    performedBy e = some i →
    (Rejects i s → step s = .next { s with schedule := rest, cmdErr := true }) ∧
    (¬Rejects i s → ∀ t, step s = .next t → t.cmdErr = true → s.cmdErr = true)

/-- R160: FRAME_VALID is cleared by exactly these events: reset, a CTRL write that changes BACKEND, and a DMA_ADDR write
accepted in DMA mode. -/
def Obligations.FrameValidClearedExactly : Prop :=
  ∀ (s t : State) (e : Event) (rest : List Event), s.schedule = e :: rest → step s = .next t → s.frameValid = true →
    (t.frameValid = false ↔
      e = .reset ∨
      (t.backend ≠ s.backend ∧ ∃ data, performedBy e = some (.wrCtrl data)) ∨
      (s.backend = .dma ∧ s.chan ≠ .transmitting ∧ ∃ data, performedBy e = some (.wrDmaAddr data)))

/-- 10_state.md R38, 40 R132: apart from reset, ENC_OUT changes only by ENC_BIT, ENC_PAIR and ENC_BYTE. -/
def Obligations.OnlyEncoderCommandsWriteEncOut : Prop :=
  ∀ (s t : State) (e : Event) (rest : List Event), s.schedule = e :: rest → step s = .next t →
    t.encOut ≠ s.encOut →
    e = .reset ∨ (∃ b, performedBy e = some (.encBit b)) ∨ (∃ p, performedBy e = some (.encPair p)) ∨
      ∃ x, performedBy e = some (.encByte x)

/-- 45 R283, 60 R302: no access stops or alters a frame in flight: it keeps STATE, BACKEND, TX_INDEX, FRAME,
FRAME_VALID, DMA_ADDR, the memory, DONE, the line and the trace, unless it is the TXDATA write that is the fatal
BUSY_VIOLATION; and only a TXDATA write in BBS mode changes BUSY or SH_BYTE. -/
def Obligations.AccessesDoNotDisturbAFrameInFlight : Prop :=
  ∀ (i : Instr) (s t : State), s.chan = .transmitting → exec i s = .next t →
    (t.chan = .transmitting ∧ t.backend = s.backend ∧ t.txIndex = s.txIndex ∧ t.frame = s.frame ∧
      t.frameValid = s.frameValid ∧ t.dmaAddr = s.dmaAddr ∧ t.memory = s.memory ∧ t.line = s.line ∧
      t.trace = s.trace ∧ (s.done = false → t.done = false) ∧
      (t.busy ≠ s.busy ∨ t.shByte ≠ s.shByte → s.backend = .bbs ∧ s.busy = false ∧ ∃ data, i = .wrTxdata data)) ∨
    (s.backend = .bbs ∧ s.busy = true ∧ (∃ data, i = .wrTxdata data) ∧
      t = s.faultEntry .busyViolation)

/-- 00_scope.md R15, 10_state.md R47: the trace only grows, but for reset, and only in Transmitting: by engine steps, and
by the marker X of a fault. No read, write or command of the host emits anything. -/
def Obligations.OnlyEnginesAndFaultsEmit : Prop :=
  ∀ (s t : State) (e : Event) (rest : List Event), s.schedule = e :: rest → step s = .next t → e ≠ .reset →
    t.trace = s.trace ∨
    (s.chan = .transmitting ∧ ∃ xs, t.trace = s.trace ++ xs ∧
      ((∃ gap, e = .engine gap) ∨ (xs = [.abort] ∧ t.chan = .faulted)))

/-- 20_memory.md R60, 45 R298: a byte of system memory changes only by a host store that covers it, or by a BUILD
accepted in DMA mode whose buffer covers it; the DMA engine only reads. -/
def Obligations.OnlyStoresAndBuildWriteMemory : Prop :=
  ∀ (s t : State) (e : Event) (rest : List Event) (a : Nat), s.schedule = e :: rest → step s = .next t →
    readCell t.memory a ≠ readCell s.memory a →
    (∃ addr v, e = .hostStoreByte addr v ∧ a = addr.toNat) ∨
    (∃ addr w, e = .hostStoreWord addr w ∧ addr.toNat ≤ a ∧ a < addr.toNat + 4) ∨
    (performedBy e = some .build ∧ s.chan = .idle ∧ s.backend = .dma ∧
      dmaAdmits s.dmaMap s.dmaAddr.toNat 33 = true ∧ s.dmaAddr.toNat ≤ a ∧ a < s.dmaAddr.toNat + 33)

/-- R328, R16: no step loses a model fault: what a state holds, or an earlier reset has put away, the next state still
holds or has put away; and no step makes a bad run good: a WSE fault, a model fault or a refusal of the past stays known. The
list of what resets put away is the model's choice (log 10). -/
def Obligations.ModelFaultsAreNeverLost : Prop :=
  (∀ (s t : State) (f : ModelFault), step s = .next t →
    (f ∈ s.modelFaults ∨ ∃ p ∈ s.past, f ∈ p.modelFaults) →
    (f ∈ t.modelFaults ∨ ∃ p ∈ t.past, f ∈ p.modelFaults)) ∧
  (∀ s t : State, step s = .next t → GoodSoFar t → GoodSoFar s)

/-- 10_state.md R49, its last bullet read by the BACKEND of the moment, is not kept: after a serial frame TX_INDEX is 33,
and a CTRL write in Idle may select PG. Nor is its bullet on accepted bytes: not after a BUSY_VIOLATION in a BBS frame, which
clears BUSY, and not in Idle after a PG frame, when a CTRL write selects BBS. These runs start at reset. This is why the model's invariant speaks of the BACKEND of the current or last frame, and of Faulted
apart (log 11, log 12). -/
def Obligations.TxIndexBoundByBackendIsNotKept : Prop :=
  (∃ s t : State, WseInv s ∧ s.txIndex.toNat ≤ frameLen s.backend ∧ step s = .next t ∧ WseInv t ∧
    frameLen t.backend < t.txIndex.toNat) ∧
  (∃ (l : List Event) (n : Nat) (t : State), Sys2Proof.core.run n { State.reset with schedule := l } = .next t ∧
    frameLen t.backend < t.txIndex.toNat) ∧
  (∃ (l : List Event) (n : Nat) (t : State), Sys2Proof.core.run n { State.reset with schedule := l } = .next t ∧
    t.backend = .bbs ∧ t.frameBackend = .bbs ∧ t.chan = .faulted ∧ t.faultCause = .busyViolation ∧
    t.bytesAccepted ≠ t.txIndex.toNat + t.busy.toNat) ∧
  (∃ (l : List Event) (n : Nat) (t : State), Sys2Proof.core.run n { State.reset with schedule := l } = .next t ∧
    t.backend = .bbs ∧ t.frameBackend = .pg ∧ t.chan = .idle ∧ t.bytesAccepted ≠ t.txIndex.toNat + t.busy.toNat)

/-! ### The encodings -/

/-- R127, R128: the decoders are the inverses: of P on all bytes, of encodeByteSerial on all lists of four, and of
encodeBitPulse on all descriptors, the reset descriptor being none. -/
def Obligations.DecodersInvertTheEncoders : Prop :=
  (∀ (v : Byte) (p : BitVec 2), decodePattern v = some p ↔ v = patternByte p) ∧
  (∀ b : Byte, decodeByteSerial (encodeByteSerial b) = some b) ∧
  (∀ (l : List Byte) (b : Byte), decodeByteSerial l = some b → l = encodeByteSerial b) ∧
  (∀ (d : Descriptor) (v : BitValue), decodeDescriptor d = some v ↔ d = encodeBitPulse v) ∧
  decodeDescriptor resetDescriptor = none

/-- R94, R125: on the wire a byte's bits go out most significant first, One as H75 L25 and Zero as H25 L75. -/
def Obligations.SerialWaveformOfAByte : Prop :=
  ∀ b : Byte, norm ((encodeByteSerial b).flatMap serBits) =
    [7, 6, 5, 4, 3, 2, 1, 0].flatMap fun i =>
      if b.getLsbD i then [.seg .high 75, .seg .low 25] else [.seg .high 25, .seg .low 75]

/-- R151: bit k of the frame's 24 bits is bit 7 - (k mod 8) of channel k / 8, the channels in the order G, R, B. -/
def Obligations.FrameBitOrder : Prop :=
  ∀ c : Color, (bitSeq c).length = 24 ∧ ∀ k, k < 24 →
    (bitSeq c)[k]? = some (bitValue
      ((if k / 8 = 0 then c.g else if k / 8 = 1 then c.r else c.b).getLsbD (7 - k % 8)))

/-- R161: decoding a built frame gives the colour back: the 24 descriptors of a pulse frame, and the three groups of
four bytes of a serial frame. -/
def Obligations.FrameRoundTrip : Prop :=
  ∀ c : Color,
    ((buildFramePG c).take 24).map decodeDescriptor = (bitSeq c).map some ∧
    decodeByteSerial ((buildFrameSerial c).take 4) = some c.g ∧
    decodeByteSerial (((buildFrameSerial c).drop 4).take 4) = some c.r ∧
    decodeByteSerial (((buildFrameSerial c).drop 8).take 4) = some c.b

/-- R162: every frame has the same shape whatever the colour: 25 descriptors or 33 bytes, 24 bit units and one reset
unit, and its waveform ends in at least T_RESET ticks of L, at least 4200 on the serial transports; with the durations
of 70_reset_and_hazards.md R355 for a whole frame. -/
def Obligations.FrameShapeAndResetLow : Prop :=
  ∀ c : Color,
    (buildFramePG c).length = 25 ∧ (buildFrameSerial c).length = 33 ∧
    (bitSeq c).length = 24 ∧ (logicalFrame c).length = 25 ∧
    (∃ xs n, norm ((buildFramePG c).flatMap pulseSegments) = xs ++ [.seg .low n] ∧ 4000 ≤ n) ∧
    (∃ xs n, norm ((buildFrameSerial c).flatMap serBits) = xs ++ [.seg .low n] ∧ 4200 ≤ n) ∧
    traceTicks ((buildFramePG c).flatMap pulseSegments) = 6400 ∧
    traceTicks ((buildFrameSerial c).flatMap serBits) = 6600

/-! ### Whole frames -/

/-- 44 R241, R243: from any Idle PG state, BUILD, START and 25 engine steps put exactly the pulse frame of COLOR on the
line, with no gap, and leave the channel Idle with DONE = 1 and TX_INDEX = 25; nothing else changes but the model's own
notes of the frame (log 1, log 11, log 12). -/
def Obligations.PulseFrameIsSentWhole : Prop :=
  ∀ (s : State) (gaps : List Nat) (rest : List Event), s.refusedMark = none → s.chan = .idle → s.backend = .pg →
    gaps.length = 25 → s.schedule = cmd .build :: cmd .start :: (gaps.map .engine ++ rest) →
    Sys2Proof.core.run 27 s = .next { s with
      schedule := rest, frame := .pg (buildFramePG (colorOf s.color)), frameValid := true, chan := .idle
      busy := false, done := true, txIndex := 25#6, line := .low, bytesAccepted := 0, frameBackend := .pg
      trace := s.trace ++ (buildFramePG (colorOf s.color)).flatMap pulseSegments }

/-- 43 R212, R214: from any Idle DMA state whose buffer is admitted, BUILD, START and 33 engine steps put exactly the
serial frame of COLOR on the line, read back from memory, with no gap, and leave the channel Idle with DONE = 1 and
TX_INDEX = 33. That memory which admits the buffer admits each of its bytes is the model's reading (log 7); the schedule and
the notes of the frame are the model's (log 1, log 11, log 12). -/
def Obligations.DmaFrameIsSentWhole : Prop :=
  ∀ (s : State) (gaps : List Nat) (rest : List Event), s.refusedMark = none → s.chan = .idle → s.backend = .dma →
    dmaAdmits s.dmaMap s.dmaAddr.toNat 33 = true →
    gaps.length = 33 → s.schedule = cmd .build :: cmd .start :: (gaps.map .engine ++ rest) →
    Sys2Proof.core.run 35 s = .next { s with
      schedule := rest, frame := .ser (buildFrameSerial (colorOf s.color)), frameValid := true, chan := .idle
      memory := memWriteBytes s.memory s.dmaAddr.toNat (buildFrameSerial (colorOf s.color))
      busy := false, done := true, txIndex := 33#6, line := .low, bytesAccepted := 0, frameBackend := .dma
      trace := s.trace ++ (buildFrameSerial (colorOf s.color)).flatMap serBits }

/-- 42 R185, R187: in BBS mode, START and then 33 bytes written one by one, each followed by the shifter's step with any
gap, put exactly those bytes on the line in order with those gaps, whatever the bytes are, and complete the frame. With
all gaps 0 the serial frame's waveform is the DMA engine's. The schedule and the notes of the frame are the model's (log 1,
log 11, log 12). -/
def Obligations.BitBangedFrameIsSentWhole : Prop :=
  (∀ (s : State) (bytes : List Byte) (gaps : List Nat) (rest : List Event),
    s.refusedMark = none → s.chan = .idle → s.backend = .bbs → bytes.length = 33 → gaps.length = 33 →
    s.schedule = cmd .start :: (bbsFeed bytes gaps ++ rest) →
    Sys2Proof.core.run 67 s = .next { s with
      schedule := rest, chan := .idle, busy := false, done := true, txIndex := 33#6, line := .low
      shByte := bytes.getD 32 0#8, bytesAccepted := 33, frameBackend := .bbs
      trace := s.trace ++ (List.zip bytes gaps).flatMap fun p => .seg .low p.2 :: serBits p.1 }) ∧
  ∀ c : Color, norm ((buildFrameSerial c).flatMap fun v => .seg .low 0 :: serBits v) =
    norm ((buildFrameSerial c).flatMap serBits)

/-- 60 R307: a fault that cuts a frame is precise at unit boundaries, on every transport: a frame cut after k units has
emitted exactly those k units whole and then X, and STATUS keeps TX_INDEX = k. PG: an Env fault. DMA: an Env fault of
either cause, or a read that is not admitted. BBS: an Env fault or a BUSY_VIOLATION, with a byte in flight, and an Env
fault between two bytes. The schedules and the notes of the frame are the model's (log 1, log 11, log 12). -/
def Obligations.FaultIsPreciseAtUnitBoundary : Prop :=
  (∀ (s : State) (c : Color) (gaps : List Nat) (rest : List Event), s.refusedMark = none → s.chan = .idle →
    s.backend = .pg → s.frameValid = true → s.frame = .pg (buildFramePG c) → gaps.length ≤ 24 →
    s.schedule = cmd .start :: (gaps.map .engine ++ .envFault .transferAbort :: rest) →
    Sys2Proof.core.run (gaps.length + 2) s = .next { s with
      schedule := rest, chan := .faulted, fault := true, faultCause := .transferAbort, busy := false, done := false
      txIndex := BitVec.ofNat 6 gaps.length, line := .low, bytesAccepted := 0, frameBackend := .pg
      trace := s.trace ++ ((buildFramePG c).take gaps.length).flatMap pulseSegments ++ [.abort] }) ∧
  (∀ (s : State) (gaps : List Nat) (e : Event) (cause : FaultCause) (rest : List Event), s.refusedMark = none →
    s.chan = .idle → s.backend = .dma → s.frameValid = true → gaps.length ≤ 32 →
    (∀ j, j < gaps.length → dmaAdmits s.dmaMap (s.dmaAddr.toNat + j) 1 = true) →
    (e = .envFault cause ∧ (cause = .bufferOverrun ∨ cause = .transferAbort) ∨
      (∃ gap, e = .engine gap) ∧ cause = .transferAbort ∧
        dmaAdmits s.dmaMap (s.dmaAddr.toNat + gaps.length) 1 = false) →
    s.schedule = cmd .start :: (gaps.map .engine ++ e :: rest) →
    Sys2Proof.core.run (gaps.length + 2) s = .next { s with
      schedule := rest, chan := .faulted, fault := true, faultCause := cause, busy := false, done := false
      txIndex := BitVec.ofNat 6 gaps.length, line := .low, bytesAccepted := 0, frameBackend := .dma
      trace := s.trace ++
        (List.range gaps.length).flatMap (fun j => serBits (memRead s.memory (s.dmaAddr.toNat + j))) ++ [.abort] }) ∧
  (∀ (s : State) (bytes : List Byte) (gaps : List Nat) (v w : Byte) (e : Event) (cause : FaultCause) (rest : List Event),
    s.refusedMark = none → s.chan = .idle → s.backend = .bbs → bytes.length ≤ 32 → gaps.length = bytes.length →
    (e = .envFault .transferAbort ∧ cause = .transferAbort ∨
      e = wr 0x014#12 (w.zeroExtend 32) ∧ cause = .busyViolation) →
    s.schedule = cmd .start :: (bbsFeed bytes gaps ++ wr 0x014#12 (v.zeroExtend 32) :: e :: rest) →
    Sys2Proof.core.run (2 * bytes.length + 3) s = .next { s with
      schedule := rest, chan := .faulted, fault := true, faultCause := cause, busy := false, done := false
      txIndex := BitVec.ofNat 6 bytes.length, line := .low, shByte := v, bytesAccepted := bytes.length + 1
      frameBackend := .bbs
      trace := s.trace ++ (List.zip bytes gaps).flatMap (fun p => .seg .low p.2 :: serBits p.1) ++ [.abort] }) ∧
  (∀ (s : State) (bytes : List Byte) (gaps : List Nat) (rest : List Event),
    s.refusedMark = none → s.chan = .idle → s.backend = .bbs → bytes.length ≤ 32 → gaps.length = bytes.length →
    s.schedule = cmd .start :: (bbsFeed bytes gaps ++ .envFault .transferAbort :: rest) →
    Sys2Proof.core.run (2 * bytes.length + 2) s = .next { s with
      schedule := rest, chan := .faulted, fault := true, faultCause := .transferAbort, busy := false, done := false
      txIndex := BitVec.ofNat 6 bytes.length, line := .low, shByte := bytes.getLastD s.shByte
      bytesAccepted := bytes.length, frameBackend := .bbs
      trace := s.trace ++ (List.zip bytes gaps).flatMap (fun p => .seg .low p.2 :: serBits p.1) ++ [.abort] })
end

