-- ==== Sys2Proof/Laws/Memory.lean ====
section
/-! SUPPORT. The laws of system memory: what a read sees after a write, and that every write keeps the canonical
form. -/

namespace Sys2Proof.Machine

@[simp] theorem readCell_memWrite_same (m : Memory) (a : Nat) (v : Byte) : readCell (memWrite m a v) a = some v := by
  induction m with
  | nil => simp [memWrite, readCell]
  | cons c rest ih =>
    obtain ⟨k, w⟩ := c
    unfold memWrite
    split
    · simp [readCell]
    · split
      · simp [readCell]
      · simp [readCell, *]

theorem readCell_memWrite_other (m : Memory) {a b : Nat} (v : Byte) (h : b ≠ a) :
    readCell (memWrite m a v) b = readCell m b := by
  induction m with
  | nil => simp [memWrite, readCell, h]
  | cons c rest ih =>
    obtain ⟨k, w⟩ := c
    unfold memWrite
    split
    · simp [readCell, h]
    · split
      · subst_vars; simp [readCell, h]
      · simp [readCell, ih]

/-- A write's effect on every later read. -/
theorem readCell_memWrite (m : Memory) (a b : Nat) (v : Byte) :
    readCell (memWrite m a v) b = if b = a then some v else readCell m b := by
  split
  · subst_vars; simp
  · exact readCell_memWrite_other m v ‹_›

/-- Bytes written from `a` leave every address outside them alone. -/
theorem readCell_memWriteBytes_outside (bytes : List Byte) (m : Memory) {a b : Nat}
    (h : b < a ∨ a + bytes.length ≤ b) : readCell (memWriteBytes m a bytes) b = readCell m b := by
  induction bytes generalizing m a with
  | nil => rfl
  | cons v rest ih =>
    simp only [List.length_cons] at h
    rw [memWriteBytes, ih _ (by omega), readCell_memWrite_other _ _ (by omega)]

/-- Bytes written from `a` are read back, each at its place. -/
theorem readCell_memWriteBytes_inside (bytes : List Byte) (m : Memory) (a j : Nat) (h : j < bytes.length) :
    readCell (memWriteBytes m a bytes) (a + j) = bytes[j]? := by
  induction bytes generalizing m a j with
  | nil => simp at h
  | cons v rest ih =>
    rw [memWriteBytes]
    cases j with
    | zero => rw [readCell_memWriteBytes_outside _ _ (by omega)]; simp
    | succ j =>
      have := ih (memWrite m a v) (a + 1) j (by simpa using h)
      rw [show a + (j + 1) = a + 1 + j by omega, this]; simp

/-- `risesAbove (some k)` is `risesAbove none` with a first address above `k`. -/
theorem risesAbove_some (k : Nat) (m : Memory) :
    risesAbove (some k) m = true ↔ risesAbove none m = true ∧ ∀ c ∈ m.head?, k < c.1 := by
  cases m with
  | nil => simp [risesAbove]
  | cons c rest => obtain ⟨a, v⟩ := c; simp [risesAbove]; tauto

theorem risesAbove_memWrite (low : Option Nat) (m : Memory) (a : Nat) (v : Byte) (ha : a < Config.addressSpace)
    (hl : ∀ k ∈ low, k < a) (h : risesAbove low m = true) : risesAbove low (memWrite m a v) = true := by
  induction m generalizing low with
  | nil => cases low <;> simp_all [memWrite, risesAbove]
  | cons c rest ih =>
    obtain ⟨k, w⟩ := c
    unfold memWrite
    split
    · cases low <;> simp_all [risesAbove]
    · split
      · subst_vars; cases low <;> simp_all [risesAbove]
      · have hk : k < a := by omega
        cases low <;> simp_all [risesAbove]

/-- A write inside the address space keeps the canonical form. -/
theorem memWrite_wf (m : Memory) (a : Nat) (v : Byte) (ha : a < Config.addressSpace) (h : Memory.wf m = true) :
    Memory.wf (memWrite m a v) = true :=
  risesAbove_memWrite none m a v ha (by simp) h

/-- Writes inside the address space keep the canonical form. -/
theorem memWriteBytes_wf (bytes : List Byte) (m : Memory) (a : Nat) (ha : a + bytes.length ≤ Config.addressSpace)
    (h : Memory.wf m = true) : Memory.wf (memWriteBytes m a bytes) = true := by
  induction bytes generalizing m a with
  | nil => exact h
  | cons v rest ih =>
    simp only [List.length_cons] at ha
    exact ih _ _ (by omega) (memWrite_wf m a v (by omega) h)

/-- The memory after power-on has the form. -/
theorem reset_memory_wf : Memory.wf State.reset.memory = true := rfl

/-- `dma_admits` is false past the top of the address space (20_memory.md R66). -/
theorem dmaAdmits_inside {spans : List Span} {addr n : Nat} (h : dmaAdmits spans addr n = true) :
    addr + n ≤ Config.addressSpace := by
  simp [dmaAdmits] at h; exact h.1

/-- Memory that admits a stretch admits each byte of it (log 7). -/
theorem dmaAdmits_byte {spans : List Span} {addr n j : Nat} (h : dmaAdmits spans addr n = true) (hj : j < n) :
    dmaAdmits spans (addr + j) 1 = true := by
  simp only [dmaAdmits, Bool.and_eq_true, decide_eq_true_eq, List.any_eq_true] at h ⊢
  obtain ⟨h1, r, hr, h2, h3⟩ := h
  exact ⟨by omega, r, hr, by omega, by omega⟩

end Sys2Proof.Machine
end

