-- ==== Sys2Proof/Laws/State.lean ====
section
/-! SUPPORT. One lemma per field per update of the state: what each shared operation leaves in each field. -/

namespace Sys2Proof.Machine

variable (s : State)

@[simp] theorem State.emit_backend (l : Level) (n : Nat) : (s.emit l n).backend = s.backend := rfl
@[simp] theorem State.emit_irqEn (l : Level) (n : Nat) : (s.emit l n).irqEn = s.irqEn := rfl
@[simp] theorem State.emit_chan (l : Level) (n : Nat) : (s.emit l n).chan = s.chan := rfl
@[simp] theorem State.emit_busy (l : Level) (n : Nat) : (s.emit l n).busy = s.busy := rfl
@[simp] theorem State.emit_done (l : Level) (n : Nat) : (s.emit l n).done = s.done := rfl
@[simp] theorem State.emit_fault (l : Level) (n : Nat) : (s.emit l n).fault = s.fault := rfl
@[simp] theorem State.emit_faultCause (l : Level) (n : Nat) : (s.emit l n).faultCause = s.faultCause := rfl
@[simp] theorem State.emit_cmdErr (l : Level) (n : Nat) : (s.emit l n).cmdErr = s.cmdErr := rfl
@[simp] theorem State.emit_frameValid (l : Level) (n : Nat) : (s.emit l n).frameValid = s.frameValid := rfl
@[simp] theorem State.emit_txIndex (l : Level) (n : Nat) : (s.emit l n).txIndex = s.txIndex := rfl
@[simp] theorem State.emit_color (l : Level) (n : Nat) : (s.emit l n).color = s.color := rfl
@[simp] theorem State.emit_encOut (l : Level) (n : Nat) : (s.emit l n).encOut = s.encOut := rfl
@[simp] theorem State.emit_dmaAddr (l : Level) (n : Nat) : (s.emit l n).dmaAddr = s.dmaAddr := rfl
@[simp] theorem State.emit_frame (l : Level) (n : Nat) : (s.emit l n).frame = s.frame := rfl
@[simp] theorem State.emit_shByte (l : Level) (n : Nat) : (s.emit l n).shByte = s.shByte := rfl
@[simp] theorem State.emit_line (l : Level) (n : Nat) : (s.emit l n).line = l := rfl
@[simp] theorem State.emit_trace (l : Level) (n : Nat) : (s.emit l n).trace = s.trace ++ [.seg l n] := rfl
@[simp] theorem State.emit_modelFaults (l : Level) (n : Nat) : (s.emit l n).modelFaults = s.modelFaults := rfl
@[simp] theorem State.emit_refusedMark (l : Level) (n : Nat) : (s.emit l n).refusedMark = s.refusedMark := rfl
@[simp] theorem State.emit_memory (l : Level) (n : Nat) : (s.emit l n).memory = s.memory := rfl
@[simp] theorem State.emit_dmaMap (l : Level) (n : Nat) : (s.emit l n).dmaMap = s.dmaMap := rfl
@[simp] theorem State.emit_hostData (l : Level) (n : Nat) : (s.emit l n).hostData = s.hostData := rfl
@[simp] theorem State.emit_bytesAccepted (l : Level) (n : Nat) : (s.emit l n).bytesAccepted = s.bytesAccepted := rfl
@[simp] theorem State.emit_frameBackend (l : Level) (n : Nat) : (s.emit l n).frameBackend = s.frameBackend := rfl
@[simp] theorem State.emit_hostWaited (l : Level) (n : Nat) : (s.emit l n).hostWaited = s.hostWaited := rfl
@[simp] theorem State.emit_schedule (l : Level) (n : Nat) : (s.emit l n).schedule = s.schedule := rfl
@[simp] theorem State.emit_past (l : Level) (n : Nat) : (s.emit l n).past = s.past := rfl

@[simp] theorem State.lineIdle_backend : (s.lineIdle).backend = s.backend := rfl
@[simp] theorem State.lineIdle_irqEn : (s.lineIdle).irqEn = s.irqEn := rfl
@[simp] theorem State.lineIdle_chan : (s.lineIdle).chan = s.chan := rfl
@[simp] theorem State.lineIdle_busy : (s.lineIdle).busy = s.busy := rfl
@[simp] theorem State.lineIdle_done : (s.lineIdle).done = s.done := rfl
@[simp] theorem State.lineIdle_fault : (s.lineIdle).fault = s.fault := rfl
@[simp] theorem State.lineIdle_faultCause : (s.lineIdle).faultCause = s.faultCause := rfl
@[simp] theorem State.lineIdle_cmdErr : (s.lineIdle).cmdErr = s.cmdErr := rfl
@[simp] theorem State.lineIdle_frameValid : (s.lineIdle).frameValid = s.frameValid := rfl
@[simp] theorem State.lineIdle_txIndex : (s.lineIdle).txIndex = s.txIndex := rfl
@[simp] theorem State.lineIdle_color : (s.lineIdle).color = s.color := rfl
@[simp] theorem State.lineIdle_encOut : (s.lineIdle).encOut = s.encOut := rfl
@[simp] theorem State.lineIdle_dmaAddr : (s.lineIdle).dmaAddr = s.dmaAddr := rfl
@[simp] theorem State.lineIdle_frame : (s.lineIdle).frame = s.frame := rfl
@[simp] theorem State.lineIdle_shByte : (s.lineIdle).shByte = s.shByte := rfl
@[simp] theorem State.lineIdle_line : (s.lineIdle).line = .low := rfl
@[simp] theorem State.lineIdle_trace : (s.lineIdle).trace = s.trace := rfl
@[simp] theorem State.lineIdle_modelFaults : (s.lineIdle).modelFaults = s.modelFaults := rfl
@[simp] theorem State.lineIdle_refusedMark : (s.lineIdle).refusedMark = s.refusedMark := rfl
@[simp] theorem State.lineIdle_memory : (s.lineIdle).memory = s.memory := rfl
@[simp] theorem State.lineIdle_dmaMap : (s.lineIdle).dmaMap = s.dmaMap := rfl
@[simp] theorem State.lineIdle_hostData : (s.lineIdle).hostData = s.hostData := rfl
@[simp] theorem State.lineIdle_bytesAccepted : (s.lineIdle).bytesAccepted = s.bytesAccepted := rfl
@[simp] theorem State.lineIdle_frameBackend : (s.lineIdle).frameBackend = s.frameBackend := rfl
@[simp] theorem State.lineIdle_hostWaited : (s.lineIdle).hostWaited = s.hostWaited := rfl
@[simp] theorem State.lineIdle_schedule : (s.lineIdle).schedule = s.schedule := rfl
@[simp] theorem State.lineIdle_past : (s.lineIdle).past = s.past := rfl

@[simp] theorem State.setBusy_backend (b : Bool) : (s.setBusy b).backend = s.backend := rfl
@[simp] theorem State.setBusy_irqEn (b : Bool) : (s.setBusy b).irqEn = s.irqEn := rfl
@[simp] theorem State.setBusy_chan (b : Bool) : (s.setBusy b).chan = s.chan := rfl
@[simp] theorem State.setBusy_busy (b : Bool) : (s.setBusy b).busy = b := rfl
@[simp] theorem State.setBusy_done (b : Bool) : (s.setBusy b).done = s.done := rfl
@[simp] theorem State.setBusy_fault (b : Bool) : (s.setBusy b).fault = s.fault := rfl
@[simp] theorem State.setBusy_faultCause (b : Bool) : (s.setBusy b).faultCause = s.faultCause := rfl
@[simp] theorem State.setBusy_cmdErr (b : Bool) : (s.setBusy b).cmdErr = s.cmdErr := rfl
@[simp] theorem State.setBusy_frameValid (b : Bool) : (s.setBusy b).frameValid = s.frameValid := rfl
@[simp] theorem State.setBusy_txIndex (b : Bool) : (s.setBusy b).txIndex = s.txIndex := rfl
@[simp] theorem State.setBusy_color (b : Bool) : (s.setBusy b).color = s.color := rfl
@[simp] theorem State.setBusy_encOut (b : Bool) : (s.setBusy b).encOut = s.encOut := rfl
@[simp] theorem State.setBusy_dmaAddr (b : Bool) : (s.setBusy b).dmaAddr = s.dmaAddr := rfl
@[simp] theorem State.setBusy_frame (b : Bool) : (s.setBusy b).frame = s.frame := rfl
@[simp] theorem State.setBusy_shByte (b : Bool) : (s.setBusy b).shByte = s.shByte := rfl
@[simp] theorem State.setBusy_line (b : Bool) : (s.setBusy b).line = s.line := rfl
@[simp] theorem State.setBusy_trace (b : Bool) : (s.setBusy b).trace = s.trace := rfl
@[simp] theorem State.setBusy_modelFaults (b : Bool) : (s.setBusy b).modelFaults = s.modelFaults := rfl
@[simp] theorem State.setBusy_refusedMark (b : Bool) : (s.setBusy b).refusedMark = s.refusedMark := rfl
@[simp] theorem State.setBusy_memory (b : Bool) : (s.setBusy b).memory = s.memory := rfl
@[simp] theorem State.setBusy_dmaMap (b : Bool) : (s.setBusy b).dmaMap = s.dmaMap := rfl
@[simp] theorem State.setBusy_hostData (b : Bool) : (s.setBusy b).hostData = s.hostData := rfl
@[simp] theorem State.setBusy_bytesAccepted (b : Bool) : (s.setBusy b).bytesAccepted = s.bytesAccepted := rfl
@[simp] theorem State.setBusy_frameBackend (b : Bool) : (s.setBusy b).frameBackend = s.frameBackend := rfl
@[simp] theorem State.setBusy_hostWaited (b : Bool) : (s.setBusy b).hostWaited = s.hostWaited := rfl
@[simp] theorem State.setBusy_schedule (b : Bool) : (s.setBusy b).schedule = s.schedule := rfl
@[simp] theorem State.setBusy_past (b : Bool) : (s.setBusy b).past = s.past := rfl

@[simp] theorem State.reject_backend : (s.reject).backend = s.backend := rfl
@[simp] theorem State.reject_irqEn : (s.reject).irqEn = s.irqEn := rfl
@[simp] theorem State.reject_chan : (s.reject).chan = s.chan := rfl
@[simp] theorem State.reject_busy : (s.reject).busy = s.busy := rfl
@[simp] theorem State.reject_done : (s.reject).done = s.done := rfl
@[simp] theorem State.reject_fault : (s.reject).fault = s.fault := rfl
@[simp] theorem State.reject_faultCause : (s.reject).faultCause = s.faultCause := rfl
@[simp] theorem State.reject_cmdErr : (s.reject).cmdErr = true := rfl
@[simp] theorem State.reject_frameValid : (s.reject).frameValid = s.frameValid := rfl
@[simp] theorem State.reject_txIndex : (s.reject).txIndex = s.txIndex := rfl
@[simp] theorem State.reject_color : (s.reject).color = s.color := rfl
@[simp] theorem State.reject_encOut : (s.reject).encOut = s.encOut := rfl
@[simp] theorem State.reject_dmaAddr : (s.reject).dmaAddr = s.dmaAddr := rfl
@[simp] theorem State.reject_frame : (s.reject).frame = s.frame := rfl
@[simp] theorem State.reject_shByte : (s.reject).shByte = s.shByte := rfl
@[simp] theorem State.reject_line : (s.reject).line = s.line := rfl
@[simp] theorem State.reject_trace : (s.reject).trace = s.trace := rfl
@[simp] theorem State.reject_modelFaults : (s.reject).modelFaults = s.modelFaults := rfl
@[simp] theorem State.reject_refusedMark : (s.reject).refusedMark = s.refusedMark := rfl
@[simp] theorem State.reject_memory : (s.reject).memory = s.memory := rfl
@[simp] theorem State.reject_dmaMap : (s.reject).dmaMap = s.dmaMap := rfl
@[simp] theorem State.reject_hostData : (s.reject).hostData = s.hostData := rfl
@[simp] theorem State.reject_bytesAccepted : (s.reject).bytesAccepted = s.bytesAccepted := rfl
@[simp] theorem State.reject_frameBackend : (s.reject).frameBackend = s.frameBackend := rfl
@[simp] theorem State.reject_hostWaited : (s.reject).hostWaited = s.hostWaited := rfl
@[simp] theorem State.reject_schedule : (s.reject).schedule = s.schedule := rfl
@[simp] theorem State.reject_past : (s.reject).past = s.past := rfl

@[simp] theorem State.complete_backend : (s.complete).backend = s.backend := rfl
@[simp] theorem State.complete_irqEn : (s.complete).irqEn = s.irqEn := rfl
@[simp] theorem State.complete_chan : (s.complete).chan = .idle := rfl
@[simp] theorem State.complete_busy : (s.complete).busy = false := rfl
@[simp] theorem State.complete_done : (s.complete).done = true := rfl
@[simp] theorem State.complete_fault : (s.complete).fault = s.fault := rfl
@[simp] theorem State.complete_faultCause : (s.complete).faultCause = s.faultCause := rfl
@[simp] theorem State.complete_cmdErr : (s.complete).cmdErr = s.cmdErr := rfl
@[simp] theorem State.complete_frameValid : (s.complete).frameValid = s.frameValid := rfl
@[simp] theorem State.complete_txIndex : (s.complete).txIndex = s.txIndex := rfl
@[simp] theorem State.complete_color : (s.complete).color = s.color := rfl
@[simp] theorem State.complete_encOut : (s.complete).encOut = s.encOut := rfl
@[simp] theorem State.complete_dmaAddr : (s.complete).dmaAddr = s.dmaAddr := rfl
@[simp] theorem State.complete_frame : (s.complete).frame = s.frame := rfl
@[simp] theorem State.complete_shByte : (s.complete).shByte = s.shByte := rfl
@[simp] theorem State.complete_line : (s.complete).line = s.line := rfl
@[simp] theorem State.complete_trace : (s.complete).trace = s.trace := rfl
@[simp] theorem State.complete_modelFaults : (s.complete).modelFaults = s.modelFaults := rfl
@[simp] theorem State.complete_refusedMark : (s.complete).refusedMark = s.refusedMark := rfl
@[simp] theorem State.complete_memory : (s.complete).memory = s.memory := rfl
@[simp] theorem State.complete_dmaMap : (s.complete).dmaMap = s.dmaMap := rfl
@[simp] theorem State.complete_hostData : (s.complete).hostData = s.hostData := rfl
@[simp] theorem State.complete_bytesAccepted : (s.complete).bytesAccepted = s.bytesAccepted := rfl
@[simp] theorem State.complete_frameBackend : (s.complete).frameBackend = s.frameBackend := rfl
@[simp] theorem State.complete_hostWaited : (s.complete).hostWaited = s.hostWaited := rfl
@[simp] theorem State.complete_schedule : (s.complete).schedule = s.schedule := rfl
@[simp] theorem State.complete_past : (s.complete).past = s.past := rfl

@[simp] theorem State.faultEntry_backend (c : FaultCause) : (s.faultEntry c).backend = s.backend := rfl
@[simp] theorem State.faultEntry_irqEn (c : FaultCause) : (s.faultEntry c).irqEn = s.irqEn := rfl
@[simp] theorem State.faultEntry_chan (c : FaultCause) : (s.faultEntry c).chan = .faulted := rfl
@[simp] theorem State.faultEntry_busy (c : FaultCause) : (s.faultEntry c).busy = false := rfl
@[simp] theorem State.faultEntry_done (c : FaultCause) : (s.faultEntry c).done = s.done := rfl
@[simp] theorem State.faultEntry_fault (c : FaultCause) : (s.faultEntry c).fault = true := rfl
@[simp] theorem State.faultEntry_faultCause (c : FaultCause) : (s.faultEntry c).faultCause = c := rfl
@[simp] theorem State.faultEntry_cmdErr (c : FaultCause) : (s.faultEntry c).cmdErr = s.cmdErr := rfl
@[simp] theorem State.faultEntry_frameValid (c : FaultCause) : (s.faultEntry c).frameValid = s.frameValid := rfl
@[simp] theorem State.faultEntry_txIndex (c : FaultCause) : (s.faultEntry c).txIndex = s.txIndex := rfl
@[simp] theorem State.faultEntry_color (c : FaultCause) : (s.faultEntry c).color = s.color := rfl
@[simp] theorem State.faultEntry_encOut (c : FaultCause) : (s.faultEntry c).encOut = s.encOut := rfl
@[simp] theorem State.faultEntry_dmaAddr (c : FaultCause) : (s.faultEntry c).dmaAddr = s.dmaAddr := rfl
@[simp] theorem State.faultEntry_frame (c : FaultCause) : (s.faultEntry c).frame = s.frame := rfl
@[simp] theorem State.faultEntry_shByte (c : FaultCause) : (s.faultEntry c).shByte = s.shByte := rfl
@[simp] theorem State.faultEntry_line (c : FaultCause) : (s.faultEntry c).line = .low := rfl
@[simp] theorem State.faultEntry_trace (c : FaultCause) : (s.faultEntry c).trace = if s.chan = .transmitting then s.trace ++ [.abort] else s.trace := rfl
@[simp] theorem State.faultEntry_modelFaults (c : FaultCause) : (s.faultEntry c).modelFaults = s.modelFaults := rfl
@[simp] theorem State.faultEntry_refusedMark (c : FaultCause) : (s.faultEntry c).refusedMark = s.refusedMark := rfl
@[simp] theorem State.faultEntry_memory (c : FaultCause) : (s.faultEntry c).memory = s.memory := rfl
@[simp] theorem State.faultEntry_dmaMap (c : FaultCause) : (s.faultEntry c).dmaMap = s.dmaMap := rfl
@[simp] theorem State.faultEntry_hostData (c : FaultCause) : (s.faultEntry c).hostData = s.hostData := rfl
@[simp] theorem State.faultEntry_bytesAccepted (c : FaultCause) : (s.faultEntry c).bytesAccepted = s.bytesAccepted := rfl
@[simp] theorem State.faultEntry_frameBackend (c : FaultCause) : (s.faultEntry c).frameBackend = s.frameBackend := rfl
@[simp] theorem State.faultEntry_hostWaited (c : FaultCause) : (s.faultEntry c).hostWaited = s.hostWaited := rfl
@[simp] theorem State.faultEntry_schedule (c : FaultCause) : (s.faultEntry c).schedule = s.schedule := rfl
@[simp] theorem State.faultEntry_past (c : FaultCause) : (s.faultEntry c).past = s.past := rfl

@[simp] theorem State.openFrame_backend : (s.openFrame).backend = s.backend := rfl
@[simp] theorem State.openFrame_irqEn : (s.openFrame).irqEn = s.irqEn := rfl
@[simp] theorem State.openFrame_chan : (s.openFrame).chan = .transmitting := rfl
@[simp] theorem State.openFrame_busy : (s.openFrame).busy = s.busy := rfl
@[simp] theorem State.openFrame_done : (s.openFrame).done = false := rfl
@[simp] theorem State.openFrame_fault : (s.openFrame).fault = s.fault := rfl
@[simp] theorem State.openFrame_faultCause : (s.openFrame).faultCause = s.faultCause := rfl
@[simp] theorem State.openFrame_cmdErr : (s.openFrame).cmdErr = s.cmdErr := rfl
@[simp] theorem State.openFrame_frameValid : (s.openFrame).frameValid = s.frameValid := rfl
@[simp] theorem State.openFrame_txIndex : (s.openFrame).txIndex = 0#6 := rfl
@[simp] theorem State.openFrame_color : (s.openFrame).color = s.color := rfl
@[simp] theorem State.openFrame_encOut : (s.openFrame).encOut = s.encOut := rfl
@[simp] theorem State.openFrame_dmaAddr : (s.openFrame).dmaAddr = s.dmaAddr := rfl
@[simp] theorem State.openFrame_frame : (s.openFrame).frame = s.frame := rfl
@[simp] theorem State.openFrame_shByte : (s.openFrame).shByte = s.shByte := rfl
@[simp] theorem State.openFrame_line : (s.openFrame).line = s.line := rfl
@[simp] theorem State.openFrame_trace : (s.openFrame).trace = s.trace := rfl
@[simp] theorem State.openFrame_modelFaults : (s.openFrame).modelFaults = s.modelFaults := rfl
@[simp] theorem State.openFrame_refusedMark : (s.openFrame).refusedMark = s.refusedMark := rfl
@[simp] theorem State.openFrame_memory : (s.openFrame).memory = s.memory := rfl
@[simp] theorem State.openFrame_dmaMap : (s.openFrame).dmaMap = s.dmaMap := rfl
@[simp] theorem State.openFrame_hostData : (s.openFrame).hostData = s.hostData := rfl
@[simp] theorem State.openFrame_bytesAccepted : (s.openFrame).bytesAccepted = 0 := rfl
@[simp] theorem State.openFrame_frameBackend : (s.openFrame).frameBackend = s.backend := rfl
@[simp] theorem State.openFrame_hostWaited : (s.openFrame).hostWaited = s.hostWaited := rfl
@[simp] theorem State.openFrame_schedule : (s.openFrame).schedule = s.schedule := rfl
@[simp] theorem State.openFrame_past : (s.openFrame).past = s.past := rfl

@[simp] theorem State.countUnit_backend : (s.countUnit).backend = s.backend := rfl
@[simp] theorem State.countUnit_irqEn : (s.countUnit).irqEn = s.irqEn := rfl
@[simp] theorem State.countUnit_chan : (s.countUnit).chan = s.chan := rfl
@[simp] theorem State.countUnit_busy : (s.countUnit).busy = s.busy := rfl
@[simp] theorem State.countUnit_done : (s.countUnit).done = s.done := rfl
@[simp] theorem State.countUnit_fault : (s.countUnit).fault = s.fault := rfl
@[simp] theorem State.countUnit_faultCause : (s.countUnit).faultCause = s.faultCause := rfl
@[simp] theorem State.countUnit_cmdErr : (s.countUnit).cmdErr = s.cmdErr := rfl
@[simp] theorem State.countUnit_frameValid : (s.countUnit).frameValid = s.frameValid := rfl
@[simp] theorem State.countUnit_txIndex : (s.countUnit).txIndex = s.txIndex + 1#6 := rfl
@[simp] theorem State.countUnit_color : (s.countUnit).color = s.color := rfl
@[simp] theorem State.countUnit_encOut : (s.countUnit).encOut = s.encOut := rfl
@[simp] theorem State.countUnit_dmaAddr : (s.countUnit).dmaAddr = s.dmaAddr := rfl
@[simp] theorem State.countUnit_frame : (s.countUnit).frame = s.frame := rfl
@[simp] theorem State.countUnit_shByte : (s.countUnit).shByte = s.shByte := rfl
@[simp] theorem State.countUnit_line : (s.countUnit).line = s.line := rfl
@[simp] theorem State.countUnit_trace : (s.countUnit).trace = s.trace := rfl
@[simp] theorem State.countUnit_modelFaults : (s.countUnit).modelFaults = s.modelFaults := rfl
@[simp] theorem State.countUnit_refusedMark : (s.countUnit).refusedMark = s.refusedMark := rfl
@[simp] theorem State.countUnit_memory : (s.countUnit).memory = s.memory := rfl
@[simp] theorem State.countUnit_dmaMap : (s.countUnit).dmaMap = s.dmaMap := rfl
@[simp] theorem State.countUnit_hostData : (s.countUnit).hostData = s.hostData := rfl
@[simp] theorem State.countUnit_bytesAccepted : (s.countUnit).bytesAccepted = s.bytesAccepted := rfl
@[simp] theorem State.countUnit_frameBackend : (s.countUnit).frameBackend = s.frameBackend := rfl
@[simp] theorem State.countUnit_hostWaited : (s.countUnit).hostWaited = s.hostWaited := rfl
@[simp] theorem State.countUnit_schedule : (s.countUnit).schedule = s.schedule := rfl
@[simp] theorem State.countUnit_past : (s.countUnit).past = s.past := rfl

@[simp] theorem State.answer_backend (v : Word) : (s.answer v).backend = s.backend := rfl
@[simp] theorem State.answer_irqEn (v : Word) : (s.answer v).irqEn = s.irqEn := rfl
@[simp] theorem State.answer_chan (v : Word) : (s.answer v).chan = s.chan := rfl
@[simp] theorem State.answer_busy (v : Word) : (s.answer v).busy = s.busy := rfl
@[simp] theorem State.answer_done (v : Word) : (s.answer v).done = s.done := rfl
@[simp] theorem State.answer_fault (v : Word) : (s.answer v).fault = s.fault := rfl
@[simp] theorem State.answer_faultCause (v : Word) : (s.answer v).faultCause = s.faultCause := rfl
@[simp] theorem State.answer_cmdErr (v : Word) : (s.answer v).cmdErr = s.cmdErr := rfl
@[simp] theorem State.answer_frameValid (v : Word) : (s.answer v).frameValid = s.frameValid := rfl
@[simp] theorem State.answer_txIndex (v : Word) : (s.answer v).txIndex = s.txIndex := rfl
@[simp] theorem State.answer_color (v : Word) : (s.answer v).color = s.color := rfl
@[simp] theorem State.answer_encOut (v : Word) : (s.answer v).encOut = s.encOut := rfl
@[simp] theorem State.answer_dmaAddr (v : Word) : (s.answer v).dmaAddr = s.dmaAddr := rfl
@[simp] theorem State.answer_frame (v : Word) : (s.answer v).frame = s.frame := rfl
@[simp] theorem State.answer_shByte (v : Word) : (s.answer v).shByte = s.shByte := rfl
@[simp] theorem State.answer_line (v : Word) : (s.answer v).line = s.line := rfl
@[simp] theorem State.answer_trace (v : Word) : (s.answer v).trace = s.trace := rfl
@[simp] theorem State.answer_modelFaults (v : Word) : (s.answer v).modelFaults = s.modelFaults := rfl
@[simp] theorem State.answer_refusedMark (v : Word) : (s.answer v).refusedMark = s.refusedMark := rfl
@[simp] theorem State.answer_memory (v : Word) : (s.answer v).memory = s.memory := rfl
@[simp] theorem State.answer_dmaMap (v : Word) : (s.answer v).dmaMap = s.dmaMap := rfl
@[simp] theorem State.answer_hostData (v : Word) : (s.answer v).hostData = v := rfl
@[simp] theorem State.answer_bytesAccepted (v : Word) : (s.answer v).bytesAccepted = s.bytesAccepted := rfl
@[simp] theorem State.answer_frameBackend (v : Word) : (s.answer v).frameBackend = s.frameBackend := rfl
@[simp] theorem State.answer_hostWaited (v : Word) : (s.answer v).hostWaited = s.hostWaited := rfl
@[simp] theorem State.answer_schedule (v : Word) : (s.answer v).schedule = s.schedule := rfl
@[simp] theorem State.answer_past (v : Word) : (s.answer v).past = s.past := rfl

@[simp] theorem State.recordModelFault_backend (f : ModelFault) : (s.recordModelFault f).backend = s.backend := rfl
@[simp] theorem State.recordModelFault_irqEn (f : ModelFault) : (s.recordModelFault f).irqEn = s.irqEn := rfl
@[simp] theorem State.recordModelFault_chan (f : ModelFault) : (s.recordModelFault f).chan = s.chan := rfl
@[simp] theorem State.recordModelFault_busy (f : ModelFault) : (s.recordModelFault f).busy = s.busy := rfl
@[simp] theorem State.recordModelFault_done (f : ModelFault) : (s.recordModelFault f).done = s.done := rfl
@[simp] theorem State.recordModelFault_fault (f : ModelFault) : (s.recordModelFault f).fault = s.fault := rfl
@[simp] theorem State.recordModelFault_faultCause (f : ModelFault) : (s.recordModelFault f).faultCause = s.faultCause := rfl
@[simp] theorem State.recordModelFault_cmdErr (f : ModelFault) : (s.recordModelFault f).cmdErr = s.cmdErr := rfl
@[simp] theorem State.recordModelFault_frameValid (f : ModelFault) : (s.recordModelFault f).frameValid = s.frameValid := rfl
@[simp] theorem State.recordModelFault_txIndex (f : ModelFault) : (s.recordModelFault f).txIndex = s.txIndex := rfl
@[simp] theorem State.recordModelFault_color (f : ModelFault) : (s.recordModelFault f).color = s.color := rfl
@[simp] theorem State.recordModelFault_encOut (f : ModelFault) : (s.recordModelFault f).encOut = s.encOut := rfl
@[simp] theorem State.recordModelFault_dmaAddr (f : ModelFault) : (s.recordModelFault f).dmaAddr = s.dmaAddr := rfl
@[simp] theorem State.recordModelFault_frame (f : ModelFault) : (s.recordModelFault f).frame = s.frame := rfl
@[simp] theorem State.recordModelFault_shByte (f : ModelFault) : (s.recordModelFault f).shByte = s.shByte := rfl
@[simp] theorem State.recordModelFault_line (f : ModelFault) : (s.recordModelFault f).line = s.line := rfl
@[simp] theorem State.recordModelFault_trace (f : ModelFault) : (s.recordModelFault f).trace = s.trace := rfl
@[simp] theorem State.recordModelFault_modelFaults (f : ModelFault) : (s.recordModelFault f).modelFaults = if f ∈ s.modelFaults then s.modelFaults else s.modelFaults ++ [f] := rfl
@[simp] theorem State.recordModelFault_refusedMark (f : ModelFault) : (s.recordModelFault f).refusedMark = s.refusedMark := rfl
@[simp] theorem State.recordModelFault_memory (f : ModelFault) : (s.recordModelFault f).memory = s.memory := rfl
@[simp] theorem State.recordModelFault_dmaMap (f : ModelFault) : (s.recordModelFault f).dmaMap = s.dmaMap := rfl
@[simp] theorem State.recordModelFault_hostData (f : ModelFault) : (s.recordModelFault f).hostData = s.hostData := rfl
@[simp] theorem State.recordModelFault_bytesAccepted (f : ModelFault) : (s.recordModelFault f).bytesAccepted = s.bytesAccepted := rfl
@[simp] theorem State.recordModelFault_frameBackend (f : ModelFault) : (s.recordModelFault f).frameBackend = s.frameBackend := rfl
@[simp] theorem State.recordModelFault_hostWaited (f : ModelFault) : (s.recordModelFault f).hostWaited = s.hostWaited := rfl
@[simp] theorem State.recordModelFault_schedule (f : ModelFault) : (s.recordModelFault f).schedule = s.schedule := rfl
@[simp] theorem State.recordModelFault_past (f : ModelFault) : (s.recordModelFault f).past = s.past := rfl

@[simp] theorem State.setEncOut_backend (v : Word) : (s.setEncOut v).backend = s.backend := rfl
@[simp] theorem State.setEncOut_irqEn (v : Word) : (s.setEncOut v).irqEn = s.irqEn := rfl
@[simp] theorem State.setEncOut_chan (v : Word) : (s.setEncOut v).chan = s.chan := rfl
@[simp] theorem State.setEncOut_busy (v : Word) : (s.setEncOut v).busy = s.busy := rfl
@[simp] theorem State.setEncOut_done (v : Word) : (s.setEncOut v).done = s.done := rfl
@[simp] theorem State.setEncOut_fault (v : Word) : (s.setEncOut v).fault = s.fault := rfl
@[simp] theorem State.setEncOut_faultCause (v : Word) : (s.setEncOut v).faultCause = s.faultCause := rfl
@[simp] theorem State.setEncOut_cmdErr (v : Word) : (s.setEncOut v).cmdErr = s.cmdErr := rfl
@[simp] theorem State.setEncOut_frameValid (v : Word) : (s.setEncOut v).frameValid = s.frameValid := rfl
@[simp] theorem State.setEncOut_txIndex (v : Word) : (s.setEncOut v).txIndex = s.txIndex := rfl
@[simp] theorem State.setEncOut_color (v : Word) : (s.setEncOut v).color = s.color := rfl
@[simp] theorem State.setEncOut_encOut (v : Word) : (s.setEncOut v).encOut = v := rfl
@[simp] theorem State.setEncOut_dmaAddr (v : Word) : (s.setEncOut v).dmaAddr = s.dmaAddr := rfl
@[simp] theorem State.setEncOut_frame (v : Word) : (s.setEncOut v).frame = s.frame := rfl
@[simp] theorem State.setEncOut_shByte (v : Word) : (s.setEncOut v).shByte = s.shByte := rfl
@[simp] theorem State.setEncOut_line (v : Word) : (s.setEncOut v).line = s.line := rfl
@[simp] theorem State.setEncOut_trace (v : Word) : (s.setEncOut v).trace = s.trace := rfl
@[simp] theorem State.setEncOut_modelFaults (v : Word) : (s.setEncOut v).modelFaults = s.modelFaults := rfl
@[simp] theorem State.setEncOut_refusedMark (v : Word) : (s.setEncOut v).refusedMark = s.refusedMark := rfl
@[simp] theorem State.setEncOut_memory (v : Word) : (s.setEncOut v).memory = s.memory := rfl
@[simp] theorem State.setEncOut_dmaMap (v : Word) : (s.setEncOut v).dmaMap = s.dmaMap := rfl
@[simp] theorem State.setEncOut_hostData (v : Word) : (s.setEncOut v).hostData = s.hostData := rfl
@[simp] theorem State.setEncOut_bytesAccepted (v : Word) : (s.setEncOut v).bytesAccepted = s.bytesAccepted := rfl
@[simp] theorem State.setEncOut_frameBackend (v : Word) : (s.setEncOut v).frameBackend = s.frameBackend := rfl
@[simp] theorem State.setEncOut_hostWaited (v : Word) : (s.setEncOut v).hostWaited = s.hostWaited := rfl
@[simp] theorem State.setEncOut_schedule (v : Word) : (s.setEncOut v).schedule = s.schedule := rfl
@[simp] theorem State.setEncOut_past (v : Word) : (s.setEncOut v).past = s.past := rfl

@[simp] theorem State.loadFrame_backend : (s.loadFrame).backend = s.backend := rfl
@[simp] theorem State.loadFrame_irqEn : (s.loadFrame).irqEn = s.irqEn := rfl
@[simp] theorem State.loadFrame_chan : (s.loadFrame).chan = s.chan := rfl
@[simp] theorem State.loadFrame_busy : (s.loadFrame).busy = s.busy := rfl
@[simp] theorem State.loadFrame_done : (s.loadFrame).done = s.done := rfl
@[simp] theorem State.loadFrame_fault : (s.loadFrame).fault = s.fault := rfl
@[simp] theorem State.loadFrame_faultCause : (s.loadFrame).faultCause = s.faultCause := rfl
@[simp] theorem State.loadFrame_cmdErr : (s.loadFrame).cmdErr = s.cmdErr := rfl
@[simp] theorem State.loadFrame_frameValid : (s.loadFrame).frameValid = true := rfl
@[simp] theorem State.loadFrame_txIndex : (s.loadFrame).txIndex = s.txIndex := rfl
@[simp] theorem State.loadFrame_color : (s.loadFrame).color = s.color := rfl
@[simp] theorem State.loadFrame_encOut : (s.loadFrame).encOut = s.encOut := rfl
@[simp] theorem State.loadFrame_dmaAddr : (s.loadFrame).dmaAddr = s.dmaAddr := rfl
@[simp] theorem State.loadFrame_frame : (s.loadFrame).frame = buildFrame s.backend (colorOf s.color) := rfl
@[simp] theorem State.loadFrame_shByte : (s.loadFrame).shByte = s.shByte := rfl
@[simp] theorem State.loadFrame_line : (s.loadFrame).line = s.line := rfl
@[simp] theorem State.loadFrame_trace : (s.loadFrame).trace = s.trace := rfl
@[simp] theorem State.loadFrame_modelFaults : (s.loadFrame).modelFaults = s.modelFaults := rfl
@[simp] theorem State.loadFrame_refusedMark : (s.loadFrame).refusedMark = s.refusedMark := rfl
@[simp] theorem State.loadFrame_memory : (s.loadFrame).memory = s.memory := rfl
@[simp] theorem State.loadFrame_dmaMap : (s.loadFrame).dmaMap = s.dmaMap := rfl
@[simp] theorem State.loadFrame_hostData : (s.loadFrame).hostData = s.hostData := rfl
@[simp] theorem State.loadFrame_bytesAccepted : (s.loadFrame).bytesAccepted = s.bytesAccepted := rfl
@[simp] theorem State.loadFrame_frameBackend : (s.loadFrame).frameBackend = s.frameBackend := rfl
@[simp] theorem State.loadFrame_hostWaited : (s.loadFrame).hostWaited = s.hostWaited := rfl
@[simp] theorem State.loadFrame_schedule : (s.loadFrame).schedule = s.schedule := rfl
@[simp] theorem State.loadFrame_past : (s.loadFrame).past = s.past := rfl

@[simp] theorem State.storeFrame_backend : (s.storeFrame).backend = s.backend := by dsimp only [State.storeFrame]
@[simp] theorem State.storeFrame_irqEn : (s.storeFrame).irqEn = s.irqEn := by dsimp only [State.storeFrame]
@[simp] theorem State.storeFrame_chan : (s.storeFrame).chan = s.chan := by dsimp only [State.storeFrame]
@[simp] theorem State.storeFrame_busy : (s.storeFrame).busy = s.busy := by dsimp only [State.storeFrame]
@[simp] theorem State.storeFrame_done : (s.storeFrame).done = s.done := by dsimp only [State.storeFrame]
@[simp] theorem State.storeFrame_fault : (s.storeFrame).fault = s.fault := by dsimp only [State.storeFrame]
@[simp] theorem State.storeFrame_faultCause : (s.storeFrame).faultCause = s.faultCause := by dsimp only [State.storeFrame]
@[simp] theorem State.storeFrame_cmdErr : (s.storeFrame).cmdErr = s.cmdErr := by dsimp only [State.storeFrame]
@[simp] theorem State.storeFrame_frameValid : (s.storeFrame).frameValid = s.frameValid := by dsimp only [State.storeFrame]
@[simp] theorem State.storeFrame_txIndex : (s.storeFrame).txIndex = s.txIndex := by dsimp only [State.storeFrame]
@[simp] theorem State.storeFrame_color : (s.storeFrame).color = s.color := by dsimp only [State.storeFrame]
@[simp] theorem State.storeFrame_encOut : (s.storeFrame).encOut = s.encOut := by dsimp only [State.storeFrame]
@[simp] theorem State.storeFrame_dmaAddr : (s.storeFrame).dmaAddr = s.dmaAddr := by dsimp only [State.storeFrame]
@[simp] theorem State.storeFrame_frame : (s.storeFrame).frame = s.frame := by dsimp only [State.storeFrame]
@[simp] theorem State.storeFrame_shByte : (s.storeFrame).shByte = s.shByte := by dsimp only [State.storeFrame]
@[simp] theorem State.storeFrame_line : (s.storeFrame).line = s.line := by dsimp only [State.storeFrame]
@[simp] theorem State.storeFrame_trace : (s.storeFrame).trace = s.trace := by dsimp only [State.storeFrame]
@[simp] theorem State.storeFrame_modelFaults : (s.storeFrame).modelFaults = s.modelFaults := by dsimp only [State.storeFrame]
@[simp] theorem State.storeFrame_refusedMark : (s.storeFrame).refusedMark = s.refusedMark := by dsimp only [State.storeFrame]
@[simp] theorem State.storeFrame_memory : (s.storeFrame).memory = memWriteBytes s.memory s.dmaAddr.toNat (buildFrameSerial (colorOf s.color)) := by
  dsimp only [State.storeFrame, State.buildColor]
@[simp] theorem State.storeFrame_dmaMap : (s.storeFrame).dmaMap = s.dmaMap := by dsimp only [State.storeFrame]
@[simp] theorem State.storeFrame_hostData : (s.storeFrame).hostData = s.hostData := by dsimp only [State.storeFrame]
@[simp] theorem State.storeFrame_bytesAccepted : (s.storeFrame).bytesAccepted = s.bytesAccepted := by dsimp only [State.storeFrame]
@[simp] theorem State.storeFrame_frameBackend : (s.storeFrame).frameBackend = s.frameBackend := by dsimp only [State.storeFrame]
@[simp] theorem State.storeFrame_hostWaited : (s.storeFrame).hostWaited = s.hostWaited := by dsimp only [State.storeFrame]
@[simp] theorem State.storeFrame_schedule : (s.storeFrame).schedule = s.schedule := by dsimp only [State.storeFrame]
@[simp] theorem State.storeFrame_past : (s.storeFrame).past = s.past := by dsimp only [State.storeFrame]

@[simp] theorem State.shiftOut_backend (v : Byte) : (s.shiftOut v).backend = s.backend := rfl
@[simp] theorem State.shiftOut_irqEn (v : Byte) : (s.shiftOut v).irqEn = s.irqEn := rfl
@[simp] theorem State.shiftOut_chan (v : Byte) : (s.shiftOut v).chan = s.chan := rfl
@[simp] theorem State.shiftOut_busy (v : Byte) : (s.shiftOut v).busy = s.busy := rfl
@[simp] theorem State.shiftOut_done (v : Byte) : (s.shiftOut v).done = s.done := rfl
@[simp] theorem State.shiftOut_fault (v : Byte) : (s.shiftOut v).fault = s.fault := rfl
@[simp] theorem State.shiftOut_faultCause (v : Byte) : (s.shiftOut v).faultCause = s.faultCause := rfl
@[simp] theorem State.shiftOut_cmdErr (v : Byte) : (s.shiftOut v).cmdErr = s.cmdErr := rfl
@[simp] theorem State.shiftOut_frameValid (v : Byte) : (s.shiftOut v).frameValid = s.frameValid := rfl
@[simp] theorem State.shiftOut_txIndex (v : Byte) : (s.shiftOut v).txIndex = s.txIndex := rfl
@[simp] theorem State.shiftOut_color (v : Byte) : (s.shiftOut v).color = s.color := rfl
@[simp] theorem State.shiftOut_encOut (v : Byte) : (s.shiftOut v).encOut = s.encOut := rfl
@[simp] theorem State.shiftOut_dmaAddr (v : Byte) : (s.shiftOut v).dmaAddr = s.dmaAddr := rfl
@[simp] theorem State.shiftOut_frame (v : Byte) : (s.shiftOut v).frame = s.frame := rfl
@[simp] theorem State.shiftOut_shByte (v : Byte) : (s.shiftOut v).shByte = s.shByte := rfl
@[simp] theorem State.shiftOut_line (v : Byte) : (s.shiftOut v).line = .low := rfl
@[simp] theorem State.shiftOut_trace (v : Byte) : (s.shiftOut v).trace = s.trace ++ serBits v := rfl
@[simp] theorem State.shiftOut_modelFaults (v : Byte) : (s.shiftOut v).modelFaults = s.modelFaults := rfl
@[simp] theorem State.shiftOut_refusedMark (v : Byte) : (s.shiftOut v).refusedMark = s.refusedMark := rfl
@[simp] theorem State.shiftOut_memory (v : Byte) : (s.shiftOut v).memory = s.memory := rfl
@[simp] theorem State.shiftOut_dmaMap (v : Byte) : (s.shiftOut v).dmaMap = s.dmaMap := rfl
@[simp] theorem State.shiftOut_hostData (v : Byte) : (s.shiftOut v).hostData = s.hostData := rfl
@[simp] theorem State.shiftOut_bytesAccepted (v : Byte) : (s.shiftOut v).bytesAccepted = s.bytesAccepted := rfl
@[simp] theorem State.shiftOut_frameBackend (v : Byte) : (s.shiftOut v).frameBackend = s.frameBackend := rfl
@[simp] theorem State.shiftOut_hostWaited (v : Byte) : (s.shiftOut v).hostWaited = s.hostWaited := rfl
@[simp] theorem State.shiftOut_schedule (v : Byte) : (s.shiftOut v).schedule = s.schedule := rfl
@[simp] theorem State.shiftOut_past (v : Byte) : (s.shiftOut v).past = s.past := rfl

@[simp] theorem State.latchByte_backend (v : Byte) : (s.latchByte v).backend = s.backend := rfl
@[simp] theorem State.latchByte_irqEn (v : Byte) : (s.latchByte v).irqEn = s.irqEn := rfl
@[simp] theorem State.latchByte_chan (v : Byte) : (s.latchByte v).chan = s.chan := rfl
@[simp] theorem State.latchByte_busy (v : Byte) : (s.latchByte v).busy = true := rfl
@[simp] theorem State.latchByte_done (v : Byte) : (s.latchByte v).done = s.done := rfl
@[simp] theorem State.latchByte_fault (v : Byte) : (s.latchByte v).fault = s.fault := rfl
@[simp] theorem State.latchByte_faultCause (v : Byte) : (s.latchByte v).faultCause = s.faultCause := rfl
@[simp] theorem State.latchByte_cmdErr (v : Byte) : (s.latchByte v).cmdErr = s.cmdErr := rfl
@[simp] theorem State.latchByte_frameValid (v : Byte) : (s.latchByte v).frameValid = s.frameValid := rfl
@[simp] theorem State.latchByte_txIndex (v : Byte) : (s.latchByte v).txIndex = s.txIndex := rfl
@[simp] theorem State.latchByte_color (v : Byte) : (s.latchByte v).color = s.color := rfl
@[simp] theorem State.latchByte_encOut (v : Byte) : (s.latchByte v).encOut = s.encOut := rfl
@[simp] theorem State.latchByte_dmaAddr (v : Byte) : (s.latchByte v).dmaAddr = s.dmaAddr := rfl
@[simp] theorem State.latchByte_frame (v : Byte) : (s.latchByte v).frame = s.frame := rfl
@[simp] theorem State.latchByte_shByte (v : Byte) : (s.latchByte v).shByte = v := rfl
@[simp] theorem State.latchByte_line (v : Byte) : (s.latchByte v).line = s.line := rfl
@[simp] theorem State.latchByte_trace (v : Byte) : (s.latchByte v).trace = s.trace := rfl
@[simp] theorem State.latchByte_modelFaults (v : Byte) : (s.latchByte v).modelFaults = s.modelFaults := rfl
@[simp] theorem State.latchByte_refusedMark (v : Byte) : (s.latchByte v).refusedMark = s.refusedMark := rfl
@[simp] theorem State.latchByte_memory (v : Byte) : (s.latchByte v).memory = s.memory := rfl
@[simp] theorem State.latchByte_dmaMap (v : Byte) : (s.latchByte v).dmaMap = s.dmaMap := rfl
@[simp] theorem State.latchByte_hostData (v : Byte) : (s.latchByte v).hostData = s.hostData := rfl
@[simp] theorem State.latchByte_bytesAccepted (v : Byte) : (s.latchByte v).bytesAccepted = s.bytesAccepted + 1 := rfl
@[simp] theorem State.latchByte_frameBackend (v : Byte) : (s.latchByte v).frameBackend = s.frameBackend := rfl
@[simp] theorem State.latchByte_hostWaited (v : Byte) : (s.latchByte v).hostWaited = s.hostWaited := rfl
@[simp] theorem State.latchByte_schedule (v : Byte) : (s.latchByte v).schedule = s.schedule := rfl
@[simp] theorem State.latchByte_past (v : Byte) : (s.latchByte v).past = s.past := rfl

@[simp] theorem State.setBackend_backend (k : Backend) : (s.setBackend k).backend = k := rfl
@[simp] theorem State.setBackend_irqEn (k : Backend) : (s.setBackend k).irqEn = s.irqEn := rfl
@[simp] theorem State.setBackend_chan (k : Backend) : (s.setBackend k).chan = s.chan := rfl
@[simp] theorem State.setBackend_busy (k : Backend) : (s.setBackend k).busy = s.busy := rfl
@[simp] theorem State.setBackend_done (k : Backend) : (s.setBackend k).done = s.done := rfl
@[simp] theorem State.setBackend_fault (k : Backend) : (s.setBackend k).fault = s.fault := rfl
@[simp] theorem State.setBackend_faultCause (k : Backend) : (s.setBackend k).faultCause = s.faultCause := rfl
@[simp] theorem State.setBackend_cmdErr (k : Backend) : (s.setBackend k).cmdErr = s.cmdErr := rfl
@[simp] theorem State.setBackend_frameValid (k : Backend) : (s.setBackend k).frameValid = (s.frameValid && decide (k = s.backend)) := rfl
@[simp] theorem State.setBackend_txIndex (k : Backend) : (s.setBackend k).txIndex = s.txIndex := rfl
@[simp] theorem State.setBackend_color (k : Backend) : (s.setBackend k).color = s.color := rfl
@[simp] theorem State.setBackend_encOut (k : Backend) : (s.setBackend k).encOut = s.encOut := rfl
@[simp] theorem State.setBackend_dmaAddr (k : Backend) : (s.setBackend k).dmaAddr = s.dmaAddr := rfl
@[simp] theorem State.setBackend_frame (k : Backend) : (s.setBackend k).frame = s.frame := rfl
@[simp] theorem State.setBackend_shByte (k : Backend) : (s.setBackend k).shByte = s.shByte := rfl
@[simp] theorem State.setBackend_line (k : Backend) : (s.setBackend k).line = s.line := rfl
@[simp] theorem State.setBackend_trace (k : Backend) : (s.setBackend k).trace = s.trace := rfl
@[simp] theorem State.setBackend_modelFaults (k : Backend) : (s.setBackend k).modelFaults = s.modelFaults := rfl
@[simp] theorem State.setBackend_refusedMark (k : Backend) : (s.setBackend k).refusedMark = s.refusedMark := rfl
@[simp] theorem State.setBackend_memory (k : Backend) : (s.setBackend k).memory = s.memory := rfl
@[simp] theorem State.setBackend_dmaMap (k : Backend) : (s.setBackend k).dmaMap = s.dmaMap := rfl
@[simp] theorem State.setBackend_hostData (k : Backend) : (s.setBackend k).hostData = s.hostData := rfl
@[simp] theorem State.setBackend_bytesAccepted (k : Backend) : (s.setBackend k).bytesAccepted = s.bytesAccepted := rfl
@[simp] theorem State.setBackend_frameBackend (k : Backend) : (s.setBackend k).frameBackend = s.frameBackend := rfl
@[simp] theorem State.setBackend_hostWaited (k : Backend) : (s.setBackend k).hostWaited = s.hostWaited := rfl
@[simp] theorem State.setBackend_schedule (k : Backend) : (s.setBackend k).schedule = s.schedule := rfl
@[simp] theorem State.setBackend_past (k : Backend) : (s.setBackend k).past = s.past := rfl

@[simp] theorem State.setIrqEn_backend (b : Bool) : (s.setIrqEn b).backend = s.backend := rfl
@[simp] theorem State.setIrqEn_irqEn (b : Bool) : (s.setIrqEn b).irqEn = b := rfl
@[simp] theorem State.setIrqEn_chan (b : Bool) : (s.setIrqEn b).chan = s.chan := rfl
@[simp] theorem State.setIrqEn_busy (b : Bool) : (s.setIrqEn b).busy = s.busy := rfl
@[simp] theorem State.setIrqEn_done (b : Bool) : (s.setIrqEn b).done = s.done := rfl
@[simp] theorem State.setIrqEn_fault (b : Bool) : (s.setIrqEn b).fault = s.fault := rfl
@[simp] theorem State.setIrqEn_faultCause (b : Bool) : (s.setIrqEn b).faultCause = s.faultCause := rfl
@[simp] theorem State.setIrqEn_cmdErr (b : Bool) : (s.setIrqEn b).cmdErr = s.cmdErr := rfl
@[simp] theorem State.setIrqEn_frameValid (b : Bool) : (s.setIrqEn b).frameValid = s.frameValid := rfl
@[simp] theorem State.setIrqEn_txIndex (b : Bool) : (s.setIrqEn b).txIndex = s.txIndex := rfl
@[simp] theorem State.setIrqEn_color (b : Bool) : (s.setIrqEn b).color = s.color := rfl
@[simp] theorem State.setIrqEn_encOut (b : Bool) : (s.setIrqEn b).encOut = s.encOut := rfl
@[simp] theorem State.setIrqEn_dmaAddr (b : Bool) : (s.setIrqEn b).dmaAddr = s.dmaAddr := rfl
@[simp] theorem State.setIrqEn_frame (b : Bool) : (s.setIrqEn b).frame = s.frame := rfl
@[simp] theorem State.setIrqEn_shByte (b : Bool) : (s.setIrqEn b).shByte = s.shByte := rfl
@[simp] theorem State.setIrqEn_line (b : Bool) : (s.setIrqEn b).line = s.line := rfl
@[simp] theorem State.setIrqEn_trace (b : Bool) : (s.setIrqEn b).trace = s.trace := rfl
@[simp] theorem State.setIrqEn_modelFaults (b : Bool) : (s.setIrqEn b).modelFaults = s.modelFaults := rfl
@[simp] theorem State.setIrqEn_refusedMark (b : Bool) : (s.setIrqEn b).refusedMark = s.refusedMark := rfl
@[simp] theorem State.setIrqEn_memory (b : Bool) : (s.setIrqEn b).memory = s.memory := rfl
@[simp] theorem State.setIrqEn_dmaMap (b : Bool) : (s.setIrqEn b).dmaMap = s.dmaMap := rfl
@[simp] theorem State.setIrqEn_hostData (b : Bool) : (s.setIrqEn b).hostData = s.hostData := rfl
@[simp] theorem State.setIrqEn_bytesAccepted (b : Bool) : (s.setIrqEn b).bytesAccepted = s.bytesAccepted := rfl
@[simp] theorem State.setIrqEn_frameBackend (b : Bool) : (s.setIrqEn b).frameBackend = s.frameBackend := rfl
@[simp] theorem State.setIrqEn_hostWaited (b : Bool) : (s.setIrqEn b).hostWaited = s.hostWaited := rfl
@[simp] theorem State.setIrqEn_schedule (b : Bool) : (s.setIrqEn b).schedule = s.schedule := rfl
@[simp] theorem State.setIrqEn_past (b : Bool) : (s.setIrqEn b).past = s.past := rfl

@[simp] theorem State.markRefused_backend (r : Refusal) : (s.markRefused r).backend = s.backend := rfl
@[simp] theorem State.markRefused_irqEn (r : Refusal) : (s.markRefused r).irqEn = s.irqEn := rfl
@[simp] theorem State.markRefused_chan (r : Refusal) : (s.markRefused r).chan = s.chan := rfl
@[simp] theorem State.markRefused_busy (r : Refusal) : (s.markRefused r).busy = s.busy := rfl
@[simp] theorem State.markRefused_done (r : Refusal) : (s.markRefused r).done = s.done := rfl
@[simp] theorem State.markRefused_fault (r : Refusal) : (s.markRefused r).fault = s.fault := rfl
@[simp] theorem State.markRefused_faultCause (r : Refusal) : (s.markRefused r).faultCause = s.faultCause := rfl
@[simp] theorem State.markRefused_cmdErr (r : Refusal) : (s.markRefused r).cmdErr = s.cmdErr := rfl
@[simp] theorem State.markRefused_frameValid (r : Refusal) : (s.markRefused r).frameValid = s.frameValid := rfl
@[simp] theorem State.markRefused_txIndex (r : Refusal) : (s.markRefused r).txIndex = s.txIndex := rfl
@[simp] theorem State.markRefused_color (r : Refusal) : (s.markRefused r).color = s.color := rfl
@[simp] theorem State.markRefused_encOut (r : Refusal) : (s.markRefused r).encOut = s.encOut := rfl
@[simp] theorem State.markRefused_dmaAddr (r : Refusal) : (s.markRefused r).dmaAddr = s.dmaAddr := rfl
@[simp] theorem State.markRefused_frame (r : Refusal) : (s.markRefused r).frame = s.frame := rfl
@[simp] theorem State.markRefused_shByte (r : Refusal) : (s.markRefused r).shByte = s.shByte := rfl
@[simp] theorem State.markRefused_line (r : Refusal) : (s.markRefused r).line = s.line := rfl
@[simp] theorem State.markRefused_trace (r : Refusal) : (s.markRefused r).trace = s.trace := rfl
@[simp] theorem State.markRefused_modelFaults (r : Refusal) : (s.markRefused r).modelFaults = s.modelFaults := rfl
@[simp] theorem State.markRefused_refusedMark (r : Refusal) : (s.markRefused r).refusedMark = some r := rfl
@[simp] theorem State.markRefused_memory (r : Refusal) : (s.markRefused r).memory = s.memory := rfl
@[simp] theorem State.markRefused_dmaMap (r : Refusal) : (s.markRefused r).dmaMap = s.dmaMap := rfl
@[simp] theorem State.markRefused_hostData (r : Refusal) : (s.markRefused r).hostData = s.hostData := rfl
@[simp] theorem State.markRefused_bytesAccepted (r : Refusal) : (s.markRefused r).bytesAccepted = s.bytesAccepted := rfl
@[simp] theorem State.markRefused_frameBackend (r : Refusal) : (s.markRefused r).frameBackend = s.frameBackend := rfl
@[simp] theorem State.markRefused_hostWaited (r : Refusal) : (s.markRefused r).hostWaited = s.hostWaited := rfl
@[simp] theorem State.markRefused_schedule (r : Refusal) : (s.markRefused r).schedule = s.schedule := rfl
@[simp] theorem State.markRefused_past (r : Refusal) : (s.markRefused r).past = s.past := rfl

@[simp] theorem State.withSchedule_backend (rest : List Event) : (s.withSchedule rest).backend = s.backend := rfl
@[simp] theorem State.withSchedule_irqEn (rest : List Event) : (s.withSchedule rest).irqEn = s.irqEn := rfl
@[simp] theorem State.withSchedule_chan (rest : List Event) : (s.withSchedule rest).chan = s.chan := rfl
@[simp] theorem State.withSchedule_busy (rest : List Event) : (s.withSchedule rest).busy = s.busy := rfl
@[simp] theorem State.withSchedule_done (rest : List Event) : (s.withSchedule rest).done = s.done := rfl
@[simp] theorem State.withSchedule_fault (rest : List Event) : (s.withSchedule rest).fault = s.fault := rfl
@[simp] theorem State.withSchedule_faultCause (rest : List Event) : (s.withSchedule rest).faultCause = s.faultCause := rfl
@[simp] theorem State.withSchedule_cmdErr (rest : List Event) : (s.withSchedule rest).cmdErr = s.cmdErr := rfl
@[simp] theorem State.withSchedule_frameValid (rest : List Event) : (s.withSchedule rest).frameValid = s.frameValid := rfl
@[simp] theorem State.withSchedule_txIndex (rest : List Event) : (s.withSchedule rest).txIndex = s.txIndex := rfl
@[simp] theorem State.withSchedule_color (rest : List Event) : (s.withSchedule rest).color = s.color := rfl
@[simp] theorem State.withSchedule_encOut (rest : List Event) : (s.withSchedule rest).encOut = s.encOut := rfl
@[simp] theorem State.withSchedule_dmaAddr (rest : List Event) : (s.withSchedule rest).dmaAddr = s.dmaAddr := rfl
@[simp] theorem State.withSchedule_frame (rest : List Event) : (s.withSchedule rest).frame = s.frame := rfl
@[simp] theorem State.withSchedule_shByte (rest : List Event) : (s.withSchedule rest).shByte = s.shByte := rfl
@[simp] theorem State.withSchedule_line (rest : List Event) : (s.withSchedule rest).line = s.line := rfl
@[simp] theorem State.withSchedule_trace (rest : List Event) : (s.withSchedule rest).trace = s.trace := rfl
@[simp] theorem State.withSchedule_modelFaults (rest : List Event) : (s.withSchedule rest).modelFaults = s.modelFaults := rfl
@[simp] theorem State.withSchedule_refusedMark (rest : List Event) : (s.withSchedule rest).refusedMark = s.refusedMark := rfl
@[simp] theorem State.withSchedule_memory (rest : List Event) : (s.withSchedule rest).memory = s.memory := rfl
@[simp] theorem State.withSchedule_dmaMap (rest : List Event) : (s.withSchedule rest).dmaMap = s.dmaMap := rfl
@[simp] theorem State.withSchedule_hostData (rest : List Event) : (s.withSchedule rest).hostData = s.hostData := rfl
@[simp] theorem State.withSchedule_bytesAccepted (rest : List Event) : (s.withSchedule rest).bytesAccepted = s.bytesAccepted := rfl
@[simp] theorem State.withSchedule_frameBackend (rest : List Event) : (s.withSchedule rest).frameBackend = s.frameBackend := rfl
@[simp] theorem State.withSchedule_hostWaited (rest : List Event) : (s.withSchedule rest).hostWaited = s.hostWaited := rfl
@[simp] theorem State.withSchedule_schedule (rest : List Event) : (s.withSchedule rest).schedule = rest := rfl
@[simp] theorem State.withSchedule_past (rest : List Event) : (s.withSchedule rest).past = s.past := rfl

@[simp] theorem State.emitPulse_backend (d : Descriptor) : (s.emitPulse d).backend = s.backend := rfl
@[simp] theorem State.emitPulse_irqEn (d : Descriptor) : (s.emitPulse d).irqEn = s.irqEn := rfl
@[simp] theorem State.emitPulse_chan (d : Descriptor) : (s.emitPulse d).chan = s.chan := rfl
@[simp] theorem State.emitPulse_busy (d : Descriptor) : (s.emitPulse d).busy = s.busy := rfl
@[simp] theorem State.emitPulse_done (d : Descriptor) : (s.emitPulse d).done = s.done := rfl
@[simp] theorem State.emitPulse_fault (d : Descriptor) : (s.emitPulse d).fault = s.fault := rfl
@[simp] theorem State.emitPulse_faultCause (d : Descriptor) : (s.emitPulse d).faultCause = s.faultCause := rfl
@[simp] theorem State.emitPulse_cmdErr (d : Descriptor) : (s.emitPulse d).cmdErr = s.cmdErr := rfl
@[simp] theorem State.emitPulse_frameValid (d : Descriptor) : (s.emitPulse d).frameValid = s.frameValid := rfl
@[simp] theorem State.emitPulse_txIndex (d : Descriptor) : (s.emitPulse d).txIndex = s.txIndex := rfl
@[simp] theorem State.emitPulse_color (d : Descriptor) : (s.emitPulse d).color = s.color := rfl
@[simp] theorem State.emitPulse_encOut (d : Descriptor) : (s.emitPulse d).encOut = s.encOut := rfl
@[simp] theorem State.emitPulse_dmaAddr (d : Descriptor) : (s.emitPulse d).dmaAddr = s.dmaAddr := rfl
@[simp] theorem State.emitPulse_frame (d : Descriptor) : (s.emitPulse d).frame = s.frame := rfl
@[simp] theorem State.emitPulse_shByte (d : Descriptor) : (s.emitPulse d).shByte = s.shByte := rfl
@[simp] theorem State.emitPulse_line (d : Descriptor) : (s.emitPulse d).line = levelOf d.level2 := rfl
@[simp] theorem State.emitPulse_trace (d : Descriptor) :
    (s.emitPulse d).trace = s.trace ++ pulseSegments d := by
  simp [State.emitPulse, pulseSegments]
@[simp] theorem State.emitPulse_modelFaults (d : Descriptor) : (s.emitPulse d).modelFaults = s.modelFaults := rfl
@[simp] theorem State.emitPulse_refusedMark (d : Descriptor) : (s.emitPulse d).refusedMark = s.refusedMark := rfl
@[simp] theorem State.emitPulse_memory (d : Descriptor) : (s.emitPulse d).memory = s.memory := rfl
@[simp] theorem State.emitPulse_dmaMap (d : Descriptor) : (s.emitPulse d).dmaMap = s.dmaMap := rfl
@[simp] theorem State.emitPulse_hostData (d : Descriptor) : (s.emitPulse d).hostData = s.hostData := rfl
@[simp] theorem State.emitPulse_bytesAccepted (d : Descriptor) : (s.emitPulse d).bytesAccepted = s.bytesAccepted := rfl
@[simp] theorem State.emitPulse_frameBackend (d : Descriptor) : (s.emitPulse d).frameBackend = s.frameBackend := rfl
@[simp] theorem State.emitPulse_hostWaited (d : Descriptor) : (s.emitPulse d).hostWaited = s.hostWaited := rfl
@[simp] theorem State.emitPulse_schedule (d : Descriptor) : (s.emitPulse d).schedule = s.schedule := rfl
@[simp] theorem State.emitPulse_past (d : Descriptor) : (s.emitPulse d).past = s.past := rfl

@[simp] theorem State.passTicks_backend (n : Nat) : (s.passTicks n).backend = s.backend := rfl
@[simp] theorem State.passTicks_irqEn (n : Nat) : (s.passTicks n).irqEn = s.irqEn := rfl
@[simp] theorem State.passTicks_chan (n : Nat) : (s.passTicks n).chan = s.chan := rfl
@[simp] theorem State.passTicks_busy (n : Nat) : (s.passTicks n).busy = s.busy := rfl
@[simp] theorem State.passTicks_done (n : Nat) : (s.passTicks n).done = s.done := rfl
@[simp] theorem State.passTicks_fault (n : Nat) : (s.passTicks n).fault = s.fault := rfl
@[simp] theorem State.passTicks_faultCause (n : Nat) : (s.passTicks n).faultCause = s.faultCause := rfl
@[simp] theorem State.passTicks_cmdErr (n : Nat) : (s.passTicks n).cmdErr = s.cmdErr := rfl
@[simp] theorem State.passTicks_frameValid (n : Nat) : (s.passTicks n).frameValid = s.frameValid := rfl
@[simp] theorem State.passTicks_txIndex (n : Nat) : (s.passTicks n).txIndex = s.txIndex := rfl
@[simp] theorem State.passTicks_color (n : Nat) : (s.passTicks n).color = s.color := rfl
@[simp] theorem State.passTicks_encOut (n : Nat) : (s.passTicks n).encOut = s.encOut := rfl
@[simp] theorem State.passTicks_dmaAddr (n : Nat) : (s.passTicks n).dmaAddr = s.dmaAddr := rfl
@[simp] theorem State.passTicks_frame (n : Nat) : (s.passTicks n).frame = s.frame := rfl
@[simp] theorem State.passTicks_shByte (n : Nat) : (s.passTicks n).shByte = s.shByte := rfl
@[simp] theorem State.passTicks_line (n : Nat) : (s.passTicks n).line = s.line := rfl
@[simp] theorem State.passTicks_trace (n : Nat) : (s.passTicks n).trace = s.trace := rfl
@[simp] theorem State.passTicks_modelFaults (n : Nat) : (s.passTicks n).modelFaults = s.modelFaults := rfl
@[simp] theorem State.passTicks_refusedMark (n : Nat) : (s.passTicks n).refusedMark = s.refusedMark := rfl
@[simp] theorem State.passTicks_memory (n : Nat) : (s.passTicks n).memory = s.memory := rfl
@[simp] theorem State.passTicks_dmaMap (n : Nat) : (s.passTicks n).dmaMap = s.dmaMap := rfl
@[simp] theorem State.passTicks_hostData (n : Nat) : (s.passTicks n).hostData = s.hostData := rfl
@[simp] theorem State.passTicks_bytesAccepted (n : Nat) : (s.passTicks n).bytesAccepted = s.bytesAccepted := rfl
@[simp] theorem State.passTicks_frameBackend (n : Nat) : (s.passTicks n).frameBackend = s.frameBackend := rfl
@[simp] theorem State.passTicks_hostWaited (n : Nat) : (s.passTicks n).hostWaited = s.hostWaited + n := rfl
@[simp] theorem State.passTicks_schedule (n : Nat) : (s.passTicks n).schedule = s.schedule := rfl
@[simp] theorem State.passTicks_past (n : Nat) : (s.passTicks n).past = s.past := rfl

@[simp] theorem State.setDmaMap_backend (spans : List Span) : (s.setDmaMap spans).backend = s.backend := rfl
@[simp] theorem State.setDmaMap_irqEn (spans : List Span) : (s.setDmaMap spans).irqEn = s.irqEn := rfl
@[simp] theorem State.setDmaMap_chan (spans : List Span) : (s.setDmaMap spans).chan = s.chan := rfl
@[simp] theorem State.setDmaMap_busy (spans : List Span) : (s.setDmaMap spans).busy = s.busy := rfl
@[simp] theorem State.setDmaMap_done (spans : List Span) : (s.setDmaMap spans).done = s.done := rfl
@[simp] theorem State.setDmaMap_fault (spans : List Span) : (s.setDmaMap spans).fault = s.fault := rfl
@[simp] theorem State.setDmaMap_faultCause (spans : List Span) : (s.setDmaMap spans).faultCause = s.faultCause := rfl
@[simp] theorem State.setDmaMap_cmdErr (spans : List Span) : (s.setDmaMap spans).cmdErr = s.cmdErr := rfl
@[simp] theorem State.setDmaMap_frameValid (spans : List Span) : (s.setDmaMap spans).frameValid = s.frameValid := rfl
@[simp] theorem State.setDmaMap_txIndex (spans : List Span) : (s.setDmaMap spans).txIndex = s.txIndex := rfl
@[simp] theorem State.setDmaMap_color (spans : List Span) : (s.setDmaMap spans).color = s.color := rfl
@[simp] theorem State.setDmaMap_encOut (spans : List Span) : (s.setDmaMap spans).encOut = s.encOut := rfl
@[simp] theorem State.setDmaMap_dmaAddr (spans : List Span) : (s.setDmaMap spans).dmaAddr = s.dmaAddr := rfl
@[simp] theorem State.setDmaMap_frame (spans : List Span) : (s.setDmaMap spans).frame = s.frame := rfl
@[simp] theorem State.setDmaMap_shByte (spans : List Span) : (s.setDmaMap spans).shByte = s.shByte := rfl
@[simp] theorem State.setDmaMap_line (spans : List Span) : (s.setDmaMap spans).line = s.line := rfl
@[simp] theorem State.setDmaMap_trace (spans : List Span) : (s.setDmaMap spans).trace = s.trace := rfl
@[simp] theorem State.setDmaMap_modelFaults (spans : List Span) : (s.setDmaMap spans).modelFaults = s.modelFaults := rfl
@[simp] theorem State.setDmaMap_refusedMark (spans : List Span) : (s.setDmaMap spans).refusedMark = s.refusedMark := rfl
@[simp] theorem State.setDmaMap_memory (spans : List Span) : (s.setDmaMap spans).memory = s.memory := rfl
@[simp] theorem State.setDmaMap_dmaMap (spans : List Span) : (s.setDmaMap spans).dmaMap = spans := rfl
@[simp] theorem State.setDmaMap_hostData (spans : List Span) : (s.setDmaMap spans).hostData = s.hostData := rfl
@[simp] theorem State.setDmaMap_bytesAccepted (spans : List Span) : (s.setDmaMap spans).bytesAccepted = s.bytesAccepted := rfl
@[simp] theorem State.setDmaMap_frameBackend (spans : List Span) : (s.setDmaMap spans).frameBackend = s.frameBackend := rfl
@[simp] theorem State.setDmaMap_hostWaited (spans : List Span) : (s.setDmaMap spans).hostWaited = s.hostWaited := rfl
@[simp] theorem State.setDmaMap_schedule (spans : List Span) : (s.setDmaMap spans).schedule = s.schedule := rfl
@[simp] theorem State.setDmaMap_past (spans : List Span) : (s.setDmaMap spans).past = s.past := rfl

end Sys2Proof.Machine
end

