-- ==== Sys2Proof/Laws/Step.lean ====
section
/-! SUPPORT. What a step can do, said once: the inversion of the step, of an instruction's meaning and of an engine
step. -/

namespace Sys2Proof.Machine

/-- A write of CMD is its command (45_channel_control.md R276). -/
theorem exec_wrCmd (w : Word) (s : State) : exec (.wrCmd w) s = exec (decodeCommand w).toInstr s := by
  show execWrCmd w s = _
  unfold execWrCmd
  cases decodeCommand w <;> rfl

/-- A step that answers a next state ran the first event of the schedule, in a run not refused. -/
theorem step_next {s t : State} (h : step s = .next t) :
    s.refusedMark = none ∧ ∃ e rest, s.schedule = e :: rest ∧ runEvent s e (s.withSchedule rest) = .next t := by
  unfold step at h
  split at h
  · cases h
  · split at h
    · cases h
    · exact ⟨‹_›, _, _, ‹_›, h⟩

/-- What a step does, its first event known. -/
theorem step_cons {s : State} {e : Event} {rest : List Event} (hr : s.refusedMark = none)
    (hs : s.schedule = e :: rest) : step s = runEvent s e (s.withSchedule rest) := by
  unfold step; rw [hr, hs]

/-- The instruction an access performs is never WR.CMD: its command stands for it. -/
theorem performedBy_ne_wrCmd {e : Event} {i : Instr} (h : performedBy e = some i) (w : Word) : i ≠ .wrCmd w := by
  cases e <;> simp only [performedBy, reduceCtorEq] at h
  split at h
  · split at h <;> cases h
    rename_i acc _ hd
    rintro rfl
    unfold decodePerformed at hd
    split at hd
    · rename_i w' _
      cases hc : decodeCommand w' <;> simp [hc, Command.toInstr] at hd
    · rename_i hn
      exact hn w (by assumption)
  · cases h

/-- An access runs the instruction it performs, or is refused and marks the run. -/
theorem runEvent_bus (kept s : State) (acc : BusAccess) :
    (∃ i, performedBy (.bus acc) = some i ∧ runEvent kept (.bus acc) s = exec i s) ∨
    (performedBy (.bus acc) = none ∧ ∃ r, runEvent kept (.bus acc) s = .next (kept.markRefused r)) := by
  unfold performedBy runEvent fetchAccess decodePerformed
  by_cases hw : acc.width = .w32
  · cases hd : decodeAccess (accessWord acc.write acc.offset) acc.data with
    | error e => cases e; simp [hw, hd]; exact ⟨_, rfl⟩
    | ok i =>
      left
      cases i <;> simp [hw, hd, exec_wrCmd]
  · simp [hw]; exact ⟨_, rfl⟩

/-- The frame shape an engine step leaves: the unit counted, and the frame completed at its length. -/
theorem endUnit_cases (s : State) :
    (s.countUnit.txIndex.toNat = frameLen s.backend ∧ s.endUnit = s.countUnit.complete) ∨
    (s.countUnit.txIndex.toNat ≠ frameLen s.backend ∧ s.endUnit = s.countUnit) := by
  unfold State.endUnit
  split <;> simp_all

/-- Everything an engine step can do. -/
theorem engineStep_next {gap : Nat} {s t : State} (h : engineStep gap s = .next t) :
    s.chan = .transmitting ∧
    ((s.backend = .bbs ∧ s.busy = true ∧
        t = (((s.emit .low gap).shiftOut s.shByte).setBusy false).endUnit) ∨
     (s.backend = .dma ∧ s.txIndex.toNat < Config.serFrameLen ∧ dmaAdmits s.dmaMap s.dmaNext 1 = true ∧
        t = (s.shiftOut (memRead s.memory s.dmaNext)).endUnit) ∨
     (s.backend = .dma ∧ s.txIndex.toNat < Config.serFrameLen ∧ dmaAdmits s.dmaMap s.dmaNext 1 = false ∧
        t = s.faultEntry .transferAbort) ∨
     (s.backend = .pg ∧ s.txIndex.toNat < Config.pgFrameLen ∧ ∃ d, s.nextDescriptor = some d ∧
        t = (s.emitPulse d).endUnit)) := by
  unfold engineStep at h
  split at h
  · refine ⟨‹_›, ?_⟩
    split at h
    · unfold bbsStep at h
      split at h
      · cases h; simp_all
      · cases h
    · unfold dmaStep at h
      split at h
      · split at h
        · cases h; simp_all
        · cases h; simp_all
      · cases h
    · unfold pgStep at h
      split at h
      · split at h
        · cases h; simp_all
        · cases h
      · cases h
  · cases h

/-- An Env fault step enters the fault it drew. -/
theorem envFaultStep_next {c : FaultCause} {s t : State} (h : envFaultStep c s = .next t) :
    s.chan = .transmitting ∧ c ∈ envCauses s.backend ∧ t = s.faultEntry c := by
  unfold envFaultStep at h
  split at h
  · cases h; simp_all
  · cases h

/-- Everything the meaning of an instruction can do, WR.CMD apart (`exec_wrCmd`). -/
theorem exec_next {i : Instr} {s t : State} (hi : ∀ w, i ≠ .wrCmd w) (h : exec i s = .next t) :
    t = s ∨ (∃ v, t = s.answer v) ∨
    (Rejects i s ∧ t = s.reject) ∨
    (∃ v, t = s.setEncOut v ∧ ((∃ b, i = .encBit b) ∨ (∃ p, i = .encPair p) ∨ ∃ x, i = .encByte x)) ∨
    (∃ data, i = .wrCtrl data ∧ t = s.setIrqEn (ctrlIrqEn data)) ∨
    (∃ data nb, i = .wrCtrl data ∧ s.chan = .idle ∧ t = (s.setIrqEn (ctrlIrqEn data)).setBackend nb) ∨
    (∃ data, i = .wrStatus data ∧
      t = { s with done := s.done && !statusClearDone data, cmdErr := s.cmdErr && !statusClearCmdErr data }) ∨
    (∃ data, i = .wrColor data ∧ t = { s with color := colorField data }) ∨
    (∃ data, i = .wrDmaAddr data ∧ s.chan ≠ .transmitting ∧
      t = { s with dmaAddr := dmaAddrField data, frameValid := s.frameValid && decide (s.backend ≠ .dma) }) ∨
    (∃ data, i = .wrTxdata data ∧ s.backend = .bbs ∧ s.chan = .transmitting ∧ s.busy = true ∧
      t = s.faultEntry .busyViolation) ∨
    (∃ data, i = .wrTxdata data ∧ s.backend = .bbs ∧ s.chan = .transmitting ∧ s.busy = false ∧
      t = s.latchByte (txByte data)) ∨
    (i = .build ∧ s.chan = .idle ∧ s.backend ≠ .dma ∧ t = s.loadFrame) ∨
    (i = .build ∧ s.chan = .idle ∧ s.backend = .dma ∧
      dmaAdmits s.dmaMap s.dmaAddr.toNat Config.serFrameLen = true ∧ t = s.storeFrame.loadFrame) ∨
    (i = .build ∧ s.chan = .idle ∧ s.backend = .dma ∧
      dmaAdmits s.dmaMap s.dmaAddr.toNat Config.serFrameLen = false ∧ t = s.faultEntry .transferAbort) ∨
    (i = .start ∧ s.chan = .idle ∧ (s.backend ≠ .bbs → s.frameValid = true) ∧ t = s.startFrame) := by
  cases i with
  | wrCmd w => exact absurd rfl (hi w)
  | wrCtrl data =>
    have h : execWrCtrl data s = .next t := h
    unfold execWrCtrl at h
    split at h <;> cases h
    · exact .inr (.inr (.inr (.inr (.inr (.inl ⟨data, _, rfl, ‹_›, rfl⟩)))))
    · exact .inr (.inr (.inr (.inr (.inl ⟨data, rfl, rfl⟩))))
  | wrStatus data => cases h; exact .inr (.inr (.inr (.inr (.inr (.inr (.inl ⟨data, rfl, rfl⟩))))))
  | wrColor data => cases h; exact .inr (.inr (.inr (.inr (.inr (.inr (.inr (.inl ⟨data, rfl, rfl⟩)))))))
  | wrTxdata data =>
    have h : execWrTxdata data s = .next t := h
    unfold execWrTxdata at h
    split at h
    · cases h; simp_all [Rejects]
    · split at h <;> cases h <;> simp_all
  | wrDmaAddr data =>
    have h : execWrDmaAddr data s = .next t := h
    unfold execWrDmaAddr at h
    split at h <;> cases h
    · exact .inl rfl
    · exact .inr (.inr (.inr (.inr (.inr (.inr (.inr (.inr (.inl ⟨data, rfl, ‹_›, rfl⟩))))))))
  | build =>
    have h : execBuild s = .next t := h
    unfold execBuild at h
    split at h
    · cases h; simp_all [Rejects]
    · split at h
      · cases h; simp_all
      · cases h; simp_all
      · split at h <;> cases h <;> simp_all
  | start =>
    have h : execStart s = .next t := h
    unfold execStart at h
    split at h
    · cases h; simp_all [Rejects]
    · split at h <;> cases h <;> simp_all [Rejects]
  | rsvd67 op => cases h; simp [Rejects]
  | rsvd8F op => cases h; simp [Rejects]
  | encBit b => cases h; exact .inr (.inr (.inr (.inl ⟨_, rfl, .inl ⟨_, rfl⟩⟩)))
  | encPair p => cases h; exact .inr (.inr (.inr (.inl ⟨_, rfl, .inr (.inl ⟨_, rfl⟩)⟩)))
  | encByte x => cases h; exact .inr (.inr (.inr (.inl ⟨_, rfl, .inr (.inr ⟨_, rfl⟩)⟩)))
  | rdCtrl => cases h; exact .inr (.inl ⟨_, rfl⟩)
  | rdStatus => cases h; exact .inr (.inl ⟨_, rfl⟩)
  | rdColor => cases h; exact .inr (.inl ⟨_, rfl⟩)
  | rdCmd => cases h; exact .inr (.inl ⟨_, rfl⟩)
  | rdEncOut => cases h; exact .inr (.inl ⟨_, rfl⟩)
  | rdTxdata => cases h; exact .inr (.inl ⟨_, rfl⟩)
  | rdDmaAddr => cases h; exact .inr (.inl ⟨_, rfl⟩)
  | rdFrame k => cases h; exact .inr (.inl ⟨_, rfl⟩)
  | rdRsvd o => cases h; exact .inr (.inl ⟨_, rfl⟩)
  | wrEncOut data => cases h; exact .inl rfl
  | wrFrame k data => cases h; exact .inl rfl
  | wrRsvd o data => cases h; exact .inl rfl
  | nop => cases h; exact .inl rfl

/-- What a host store leaves: memory and the model faults aside, nothing moves. -/
theorem storeBytes_eq (s : State) (a : Nat) (bytes : List Byte) :
    s.storeBytes a bytes = { s with
      memory := memWriteBytes s.memory a bytes, modelFaults := (s.storeBytes a bytes).modelFaults } := by
  unfold State.storeBytes; simp only; split <;> rfl

/-- What START leaves, whichever the transport. -/
theorem startFrame_eq (s : State) :
    s.startFrame = { s with
      chan := .transmitting, done := false, txIndex := 0#6, bytesAccepted := 0, frameBackend := s.backend
      busy := s.startFrame.busy } := by
  unfold State.startFrame; split <;> rfl

/-- Everything a step can do, by its event. -/
theorem step_all {s t : State} {e : Event} {rest : List Event} (hs : s.schedule = e :: rest) (h : step s = .next t) :
    (∃ i, performedBy e = some i ∧ (∀ w, i ≠ .wrCmd w) ∧ exec i (s.withSchedule rest) = .next t) ∨
    (∃ acc r, e = .bus acc ∧ performedBy e = none ∧ t = s.markRefused r) ∨
    (∃ a v, (e = .hostLoadByte a ∨ e = .hostLoadWord a) ∧ t = (s.withSchedule rest).answer v) ∨
    (∃ a v, e = .hostStoreByte a v ∧ t = (s.withSchedule rest).storeBytes a.toNat [v]) ∨
    (∃ a w, e = .hostStoreWord a w ∧ a.toNat + 4 ≤ Config.addressSpace ∧
      t = (s.withSchedule rest).storeBytes a.toNat (wordBytes w)) ∨
    (∃ d n, e = .hostDelay d n ∧ d ≤ n ∧ t = (s.withSchedule rest).passTicks n) ∨
    (∃ g, e = .engine g ∧ engineStep g (s.withSchedule rest) = .next t) ∨
    (∃ c, e = .envFault c ∧ s.chan = .transmitting ∧ c ∈ envCauses s.backend ∧
      t = (s.withSchedule rest).faultEntry c) ∨
    (e = .reset ∧ t = (s.withSchedule rest).blockReset) ∨
    (∃ m, e = .dmaMapChange m ∧ t = (s.withSchedule rest).setDmaMap m) := by
  obtain ⟨hr, e', rest', hs', h⟩ := step_next h
  rw [hs] at hs'; cases hs'
  cases e with
  | bus acc =>
    rcases runEvent_bus s (s.withSchedule rest) acc with ⟨i, hp, hh⟩ | ⟨hp, r, hh⟩
    · rw [hh] at h; exact .inl ⟨i, hp, performedBy_ne_wrCmd hp, h⟩
    · rw [hh] at h; cases h; exact .inr (.inl ⟨acc, r, rfl, hp, rfl⟩)
  | hostLoadByte a => cases h; exact .inr (.inr (.inl ⟨a, _, .inl rfl, rfl⟩))
  | hostLoadWord a =>
    simp only [runEvent, hostLoadWord] at h
    split at h <;> cases h; exact .inr (.inr (.inl ⟨a, _, .inr rfl, rfl⟩))
  | hostStoreByte a v => cases h; exact .inr (.inr (.inr (.inl ⟨_, _, rfl, rfl⟩)))
  | hostStoreWord a v =>
    simp only [runEvent, hostStoreWord] at h
    split at h <;> cases h
    rename_i hm
    exact .inr (.inr (.inr (.inr (.inl ⟨_, _, rfl, of_decide_eq_true hm, rfl⟩))))
  | hostDelay d n =>
    simp only [runEvent, hostDelay] at h
    split at h <;> cases h
    exact .inr (.inr (.inr (.inr (.inr (.inl ⟨d, n, rfl, ‹_›, rfl⟩)))))
  | engine g => exact .inr (.inr (.inr (.inr (.inr (.inr (.inl ⟨g, rfl, h⟩))))))
  | envFault c =>
    obtain ⟨h1, h2, h3⟩ := envFaultStep_next h
    exact .inr (.inr (.inr (.inr (.inr (.inr (.inr (.inl ⟨c, rfl, h1, h2, h3⟩)))))))
  | reset => cases h; exact .inr (.inr (.inr (.inr (.inr (.inr (.inr (.inr (.inl ⟨rfl, rfl⟩))))))))
  | dmaMapChange m => cases h; exact .inr (.inr (.inr (.inr (.inr (.inr (.inr (.inr (.inr ⟨m, rfl, rfl⟩))))))))

end Sys2Proof.Machine
end

