-- ==== Sys2Proof/Laws/Run.lean ====
section
/-! SUPPORT. Runs of many steps: one step first, two runs one after the other,
    and the units of a frame in flight on each
transport. -/

namespace Sys2Proof.Machine

/-- A run that starts with a step to `t`. -/
theorem run_step {s t : State} (n : Nat) (h : step s = .next t) :
    Sys2Proof.core.run (n + 1) s = Sys2Proof.core.run n t := by
  simp only [Host.Core.run]
  rw [show Sys2Proof.core.step s = .next t from h]

/-- A run of `m` steps to `t`, then `n` more. -/
theorem run_append {s t : State} (m n : Nat) (h : Sys2Proof.core.run m s = .next t) :
    Sys2Proof.core.run (m + n) s = Sys2Proof.core.run n t := by
  induction m generalizing s with
  | zero => rw [Nat.zero_add]; injection h with h; rw [h]
  | succ m ih =>
    rw [show m + 1 + n = (m + n) + 1 by omega]
    simp only [Host.Core.run] at h ⊢
    split at h
    · exact ih h
    · cases h
    · cases h

theorem buildFrameSerial_length (c : Color) : (buildFrameSerial c).length = 33 := rfl
theorem buildFramePG_length (c : Color) : (buildFramePG c).length = 25 := rfl

/-- Every descriptor of a built frame ends low. -/
theorem buildFramePG_level2 (c : Color) {n : Nat} {d : Descriptor} (h : (buildFramePG c)[n]? = some d) :
    d.level2 = false := by
  have := List.mem_of_getElem? h
  simp only [buildFramePG, List.mem_append, List.mem_map, List.mem_singleton] at this
  rcases this with ⟨x, _, rfl⟩ | rfl
  · cases x <;> rfl
  · rfl

/-- TX_INDEX counts without a wrap inside a frame. -/
theorem txIndex_succ {s : State} {n : Nat} (h : s.txIndex.toNat < n) (hn : n ≤ 63) :
    (s.txIndex + 1#6).toNat = s.txIndex.toNat + 1 := by
  rw [BitVec.toNat_add]; simp; omega

/-- The step of a scheduled engine event. -/
theorem step_engine {s : State} {g : Nat} {rest : List Event} (hr : s.refusedMark = none)
    (hs : s.schedule = .engine g :: rest) : step s = engineStep g (s.withSchedule rest) :=
  step_cons hr hs

/-- A unit that is not the frame's last is counted, and that is all. -/
theorem endUnit_more {s : State} (h : s.txIndex.toNat + 1 < frameLen s.backend) : s.endUnit = s.countUnit := by
  have h33 : frameLen s.backend ≤ 33 := by cases s.backend <;> decide
  rcases endUnit_cases s with ⟨e, _⟩ | ⟨_, q⟩
  · rw [State.countUnit_txIndex, txIndex_succ (n := 33) (by omega) (by omega)] at e; omega
  · exact q

/-- The units of a PG frame in flight, the last one apart: each engine step emits the next descriptor. -/
theorem pg_units (c : Color) (rest : List Event) (gaps : List Nat) (s : State) (hr : s.refusedMark = none)
    (hc : s.chan = .transmitting) (hb : s.backend = .pg) (hf : s.frame = .pg (buildFramePG c))
    (hn : s.txIndex.toNat + gaps.length < 25) (hs : s.schedule = gaps.map .engine ++ rest) :
    Sys2Proof.core.run gaps.length s = .next { s with
      schedule := rest, txIndex := s.txIndex + BitVec.ofNat 6 gaps.length
      line := if gaps = [] then s.line else .low
      trace := s.trace ++ (((buildFramePG c).drop s.txIndex.toNat).take gaps.length).flatMap pulseSegments } := by
  induction gaps generalizing s with
  | nil => simp at hs; simp [Host.Core.run, ← hs]
  | cons g gaps ih =>
    simp only [List.length_cons] at hn
    have hl := buildFramePG_length c
    obtain ⟨d, hd⟩ : ∃ d, (buildFramePG c)[s.txIndex.toNat]? = some d := ⟨_, List.getElem?_eq_getElem (by omega)⟩
    have hv := buildFramePG_level2 c hd
    have hx := txIndex_succ (s := s) (n := 25) (by omega) (by omega)
    let u := (s.withSchedule (gaps.map Event.engine ++ rest)).emitPulse d
    have hu : step s = .next u.countUnit := by
      have nd : (s.withSchedule (gaps.map Event.engine ++ rest)).nextDescriptor = some d := by
        simp [State.nextDescriptor, hf, hd]
      rw [step_engine hr hs, ← endUnit_more (s := u) (by simp [u, hb, frameLen, Config.pgFrameLen]; omega)]
      simp [engineStep, hc, hb, pgStep, Config.pgFrameLen, nd, u, show s.txIndex.toNat < 25 by omega]
    have dr : (buildFramePG c).drop s.txIndex.toNat = d :: (buildFramePG c).drop (s.txIndex.toNat + 1) := by
      rw [List.getElem?_eq_getElem (by omega)] at hd
      exact (List.drop_eq_getElem_cons (by omega)).trans (by rw [Option.some.inj hd])
    rw [List.length_cons, run_step _ hu, ih u.countUnit (by simpa [u]) (by simpa [u]) (by simpa [u]) (by simpa [u])
      (by simp only [u, State.countUnit_txIndex, State.emitPulse_txIndex, State.withSchedule_txIndex,
          hx]; omega) (by simp [u])]
    simp [u, hx, dr, hv, levelOf, State.countUnit, State.emitPulse, State.emit, State.withSchedule,
        pulseSegments, hc, hb, BitVec.ofNat_add]
    ac_rfl

/-- The units of a DMA frame in flight, the last one apart: each engine step emits the next byte of the buffer. -/
theorem dma_units (rest : List Event) (gaps : List Nat) (s : State) (hr : s.refusedMark = none)
    (hc : s.chan = .transmitting) (hb : s.backend = .dma)
    (ha : ∀ j, j < gaps.length → dmaAdmits s.dmaMap (s.dmaNext + j) 1 = true)
    (hn : s.txIndex.toNat + gaps.length < 33) (hs : s.schedule = gaps.map .engine ++ rest) :
    Sys2Proof.core.run gaps.length s = .next { s with
      schedule := rest, txIndex := s.txIndex + BitVec.ofNat 6 gaps.length
      line := if gaps = [] then s.line else .low
      trace := s.trace ++ (List.range gaps.length).flatMap fun j => serBits (memRead s.memory (s.dmaNext + j)) } := by
  induction gaps generalizing s with
  | nil => simp at hs; simp [Host.Core.run, ← hs]
  | cons g gaps ih =>
    simp only [List.length_cons] at hn ha
    have hx := txIndex_succ (s := s) (n := 33) (by omega) (by omega)
    let u := (s.withSchedule (gaps.map Event.engine ++ rest)).shiftOut (memRead s.memory s.dmaNext)
    have hu : step s = .next u.countUnit := by
      rw [step_engine hr hs, ← endUnit_more (s := u) (by simp [u, hb, frameLen, Config.serFrameLen]; omega)]
      have h0 : dmaAdmits s.dmaMap s.dmaNext 1 = true := ha 0 (by omega)
      have hd : (s.withSchedule (gaps.map Event.engine ++ rest)).dmaNext = s.dmaNext := rfl
      simp [engineStep, hc, hb, dmaStep, Config.serFrameLen, hd, h0, u, show s.txIndex.toNat < 33 by omega]
    have hd : u.countUnit.dmaNext = s.dmaNext + 1 := by
      simp only [State.dmaNext, u, State.countUnit_txIndex, State.shiftOut_txIndex, State.withSchedule_txIndex,
          hx, State.countUnit_dmaAddr, State.shiftOut_dmaAddr, State.withSchedule_dmaAddr]; omega
    rw [List.length_cons, run_step _ hu, ih u.countUnit (by simpa [u]) (by simpa [u]) (by simpa [u])
      (fun j hj => by rw [hd, Nat.add_assoc, Nat.add_comm 1]; exact ha (j + 1) (by omega))
      (by simp only [u, State.countUnit_txIndex, State.shiftOut_txIndex, State.withSchedule_txIndex,
          hx]; omega) (by simp [u])]
    rw [hd, List.range_succ_eq_map, List.flatMap_cons, List.flatMap_map]
    simp [u, State.countUnit, State.shiftOut, State.lineIdle, State.withSchedule, hc, hb, BitVec.ofNat_add,
        Nat.add_assoc, Nat.add_comm 1]
    ac_rfl

/-- The step of a scheduled TXDATA write. -/
theorem step_txdata {s : State} {v : Byte} {rest : List Event} (hr : s.refusedMark = none)
    (hs : s.schedule = wr 0x014#12 (v.zeroExtend 32) :: rest) :
    step s = execWrTxdata (v.zeroExtend 32) (s.withSchedule rest) := by
  rw [step_cons hr hs]
  have : decodeAccess (accessWord true 0x014#12) (v.zeroExtend 32) = .ok (.wrTxdata (v.zeroExtend 32)) := rfl
  simp only [wr, runEvent, fetchAccess, this]
  rfl

theorem txByte_zeroExtend (v : Byte) : txByte (v.zeroExtend 32) = v := by
  apply BitVec.eq_of_toNat_eq
  have := v.isLt
  simpa [txByte] using this

/-- The units of a BBS frame in flight, the last one apart: each byte written is shifted out after its gap. -/
theorem bbs_units (rest : List Event) (bytes : List Byte) (gaps : List Nat) (s : State) (hr : s.refusedMark = none)
    (hc : s.chan = .transmitting) (hb : s.backend = .bbs) (hy : s.busy = false) (hg : gaps.length = bytes.length)
    (hn : s.txIndex.toNat + bytes.length < 33) (hs : s.schedule = bbsFeed bytes gaps ++ rest) :
    Sys2Proof.core.run (2 * bytes.length) s = .next { s with
      schedule := rest, txIndex := s.txIndex + BitVec.ofNat 6 bytes.length
      line := if bytes = [] then s.line else .low
      shByte := bytes.getLastD s.shByte, bytesAccepted := s.bytesAccepted + bytes.length
      trace := s.trace ++ (List.zip bytes gaps).flatMap fun p => .seg .low p.2 :: serBits p.1 } := by
  induction bytes generalizing s gaps with
  | nil =>
    simp [bbsFeed] at hs
    simp [Host.Core.run, ← hs]
  | cons v bytes ih =>
    obtain _ | ⟨g, gaps⟩ := gaps
    · simp at hg
    simp only [List.length_cons] at hn hg
    have hx := txIndex_succ (s := s) (n := 33) (by omega) (by omega)
    let r := bbsFeed bytes gaps ++ rest
    let u := (s.withSchedule (.engine g :: r)).latchByte v
    have hu : step s = .next u := by
      rw [step_txdata hr hs]
      simp [execWrTxdata, hc, hb, hy, txByte_zeroExtend, u, r]
    let w := (((u.withSchedule r).emit .low g).shiftOut v).setBusy false
    have hw : step u = .next w.countUnit := by
      have more : w.txIndex.toNat + 1 < frameLen w.backend := by
        simp [u, w, hb, frameLen, Config.serFrameLen]; omega
      rw [step_engine (g := g) (rest := r) (by simpa [u]) (by simp [u]), ← endUnit_more more]
      simp [engineStep, hc, hb, bbsStep, u, w]
    rw [List.length_cons, show 2 * (bytes.length + 1) = 2 * bytes.length + 1 + 1 by omega, run_step _ hu,
        run_step _ hw,
      ih gaps w.countUnit (by simpa [u, w]) (by simpa [u, w]) (by simpa [u, w]) (by simp [w]) (by omega)
      (by simp only [u, w, State.countUnit_txIndex, State.setBusy_txIndex, State.shiftOut_txIndex,
          State.emit_txIndex, State.latchByte_txIndex, State.withSchedule_txIndex, hx]; omega) (by simp [w, r])]
    simp [u, w, r, State.countUnit, State.setBusy, State.emit, State.latchByte, State.shiftOut, State.lineIdle,
        State.withSchedule, hc, hb, hy, BitVec.ofNat_add]
    rw [BitVec.add_assoc, BitVec.add_comm 1#6, Nat.add_assoc, Nat.add_comm 1, List.getLast?_cons]
    simp

/-- A run that ends with a step to `u`. -/
theorem run_last {s t u : State} (m : Nat) (h : Sys2Proof.core.run m s = .next t) (h' : step t = .next u) :
    Sys2Proof.core.run (m + 1) s = .next u := by
  rw [run_append m 1 h, run_step 0 h']; rfl

/-- The step of a scheduled Env fault. -/
theorem step_env {s : State} {c : FaultCause} {rest : List Event} (hr : s.refusedMark = none)
    (hs : s.schedule = .envFault c :: rest) (hc : s.chan = .transmitting) (hm : c ∈ envCauses s.backend) :
    step s = .next ((s.withSchedule rest).faultEntry c) := by
  rw [step_cons hr hs]; simp [runEvent, envFaultStep, hc, hm]

/-- The step of a scheduled START that is accepted. -/
theorem step_start {s : State} {rest : List Event} (hr : s.refusedMark = none) (hc : s.chan = .idle)
    (hv : s.backend ≠ .bbs → s.frameValid = true) (hs : s.schedule = cmd .start :: rest) :
    step s = .next (s.withSchedule rest).startFrame := by
  have : step s = execStart (s.withSchedule rest) := by rw [step_cons hr hs]; rfl
  rw [this, execStart]
  by_cases h : s.backend = .bbs <;> simp [hc, h, hv]

end Sys2Proof.Machine
end

