-- ==== Sys2Proof/Laws/Fair.lean ====
section
/-! SUPPORT. A frame in flight, step by step: what moves it, and what a fair schedule needs of each step
(45_channel_control.md R283). -/

namespace Sys2Proof.Machine

/-- The unit counted: the frame goes on, or completes at its length. -/
theorem endUnit_progress {s : State} (h : s.txIndex.toNat < 33) (hc : s.chan = .transmitting) :
    s.endUnit.backend = s.backend ∧
    ((s.endUnit.chan = .idle ∧ s.endUnit.done = true ∧ s.endUnit.txIndex.toNat = frameLen s.backend) ∨
     (s.endUnit.chan = .transmitting ∧ s.endUnit.txIndex.toNat = s.txIndex.toNat + 1)) := by
  have hx := txIndex_succ h (by omega)
  rcases endUnit_cases s with ⟨e, q⟩ | ⟨_, q⟩ <;> rw [q] <;> simp at *
  · simp [e]
  · simp [hx, hc]

/-- What an engine step does to a frame in flight when it meets no fault. -/
theorem engineStep_progress {s t : State} {g : Nat} (h33 : s.txIndex.toNat < 33) (h : engineStep g s = .next t)
    (hf : t.fault = false) : t.backend = s.backend ∧
    ((t.chan = .idle ∧ t.done = true ∧ t.txIndex.toNat = frameLen s.backend) ∨
     (t.chan = .transmitting ∧ t.txIndex.toNat = s.txIndex.toNat + 1)) := by
  obtain ⟨hc, h⟩ := engineStep_next h
  rcases h with ⟨_, _, rfl⟩ | ⟨_, _, _, rfl⟩ | ⟨_, _, _, rfl⟩ | ⟨_, _, d, _, rfl⟩
  · simpa using endUnit_progress (s := ((s.emit .low g).shiftOut s.shByte).setBusy false) (by simpa) (by simpa)
  · simpa using endUnit_progress (s := s.shiftOut (memRead s.memory s.dmaNext)) (by simpa) (by simpa)
  · simp at hf
  · simpa using endUnit_progress (s := s.emitPulse d) (by simpa) (by simpa)

/-- What an access does to a frame in flight when it meets no fault: nothing, but that a TXDATA write in BBS mode leaves
BUSY = 1. -/
theorem exec_progress {i : Instr} {s t : State} (hi : ∀ w, i ≠ .wrCmd w) (hc : s.chan = .transmitting)
    (h : exec i s = .next t) (hf : t.fault = false) :
    t.backend = s.backend ∧ t.chan = .transmitting ∧ t.txIndex = s.txIndex ∧ (s.busy = true → t.busy = true) ∧
    ((∃ d, i = .wrTxdata d) → s.backend = .bbs → t.busy = true) := by
  have key : (∃ d, i = .wrTxdata d) → s.backend = .bbs → t.busy = true := by
    rintro ⟨d, rfl⟩ hb
    have h : execWrTxdata d s = .next t := h
    unfold execWrTxdata at h
    split at h
    · simp_all
    · split at h <;> cases h <;> simp at hf ⊢
  refine and_assoc.1 (and_assoc.1 (and_assoc.1 ⟨?_, key⟩))
  rcases exec_next hi h with rfl | ⟨v, rfl⟩ | ⟨_, rfl⟩ | ⟨v, rfl, _⟩ | ⟨d, _, rfl⟩ | ⟨d, nb, _, h1, rfl⟩ | ⟨d, _, rfl⟩ |
    ⟨d, _, rfl⟩ | ⟨d, _, h1, rfl⟩ | ⟨d, _, h1, h2, h3, rfl⟩ | ⟨d, _, h1, h2, h3, rfl⟩ | ⟨_, h1, h2, rfl⟩ |
    ⟨_, h1, h2, h3, rfl⟩ | ⟨_, h1, h2, h3, rfl⟩ | ⟨_, h1, h2, rfl⟩ <;> simp_all

/-- Everything a step other than reset can do to a frame in flight when it meets no fault: the engine advances it, and
nothing else moves it. -/
theorem step_progress {s t : State} {e : Event} {rest : List Event} (h33 : s.txIndex.toNat < 33)
    (hc : s.chan = .transmitting) (hs : s.schedule = e :: rest) (h : step s = .next t) (hf : t.fault = false)
    (he : e ≠ .reset) : t.backend = s.backend ∧
    (((∃ g, e = .engine g) ∧
        ((t.chan = .idle ∧ t.done = true ∧ t.txIndex.toNat = frameLen s.backend) ∨
         (t.chan = .transmitting ∧ t.txIndex.toNat = s.txIndex.toNat + 1))) ∨
     ((∀ g, e ≠ .engine g) ∧ t.chan = .transmitting ∧ t.txIndex = s.txIndex ∧ (s.busy = true → t.busy = true) ∧
        ((∃ d, performedBy e = some (.wrTxdata d)) → s.backend = .bbs → t.busy = true))) := by
  rcases step_all hs h with ⟨i, hp, hi, h⟩ | ⟨acc, r, rfl, hp, rfl⟩ | ⟨a, v, hv, rfl⟩ | ⟨a, v, rfl, rfl⟩ |
    ⟨a, v, rfl, _, rfl⟩ | ⟨d, n, rfl, hn, rfl⟩ | ⟨g, rfl, h⟩ | ⟨c, rfl, h1, h2, rfl⟩ | ⟨rfl, rfl⟩ | ⟨m, rfl, rfl⟩
  · have := exec_progress hi (by simpa) h hf
    simp only [State.withSchedule_backend, State.withSchedule_txIndex, State.withSchedule_busy] at this
    refine ⟨this.1, .inr ⟨?_, this.2.1, this.2.2.1, this.2.2.2.1, ?_⟩⟩
    · rintro g rfl; simp [performedBy] at hp
    · rw [hp]; simpa using this.2.2.2.2
  · simp [hc, hp]
  · rcases hv with rfl | rfl <;> simp [hc, performedBy]
  · rw [storeBytes_eq]; simp [hc, performedBy]
  · rw [storeBytes_eq]; simp [hc, performedBy]
  · simp [hc, performedBy]
  · have := engineStep_progress (by simpa) h hf
    simp only [State.withSchedule_backend, State.withSchedule_txIndex] at this
    exact ⟨this.1, .inl ⟨⟨g, rfl⟩, this.2⟩⟩
  · simp at hf
  · exact absurd rfl he
  · simp [hc, performedBy]

end Sys2Proof.Machine
end

