-- ==== Sys2Proof/Laws/PerInstr.lean ====
section
/-! SUPPORT. The per-instruction family EncodesItsRow: the word of a well-formed instruction matches the mask and match
of its own row of spec/opcode_table.json. -/

namespace Sys2Proof.Laws.EncodesItsRow

/-- Whether a machine word matches row `n` of the table. -/
def matchesRow (n : Nat) : CodeWord → Bool
  | .bus a _ => (busRows[n]?).any fun r => a &&& r.1 == r.2
  | .cmd w => (commandRows[n - 18]?).any fun r => w &&& r.1 == r.2

/-- The statement of the family. -/
def Statement (i : Instr) : Prop :=
  i.wf = true → matchesRow i.row (encode i) = true

/-- An aligned offset has zeros at bits 1:0. -/
theorem low_bits_zero {offset : BitVec 12} (h : offsetAligned offset = true) :
    offset.getLsbD 0 = false ∧ offset.getLsbD 1 = false := by
  have h : offset.toNat % 4 = 0 := by simpa [offsetAligned] using h
  simp only [BitVec.getLsbD, Nat.testBit_eq_decide_div_mod_eq, decide_eq_false_iff_not]
  omega

/-- The access word of an aligned offset keeps its bits 1:0 zero and has W at bit 12. -/
theorem access_low_bits (w : Bool) {offset : BitVec 12} (h : offsetAligned offset = true) :
    accessWord w offset &&& 0x1003#13 = if w then 0x1000#13 else 0x0000#13 := by
  obtain ⟨h0, h1⟩ := low_bits_zero h
  apply BitVec.eq_of_getLsbD_eq
  intro i hi
  rw [BitVec.getLsbD_and, accessWord, BitVec.getLsbD_append]
  interval_cases i <;> cases w <;> simp_all

theorem rdCtrl : Statement .rdCtrl :=
  fun _ => rfl

theorem wrCtrl (data : Word) : Statement (.wrCtrl data) :=
  fun _ => rfl

theorem rdStatus : Statement .rdStatus :=
  fun _ => rfl

theorem wrStatus (data : Word) : Statement (.wrStatus data) :=
  fun _ => rfl

theorem rdColor : Statement .rdColor :=
  fun _ => rfl

theorem wrColor (data : Word) : Statement (.wrColor data) :=
  fun _ => rfl

theorem rdCmd : Statement .rdCmd :=
  fun _ => rfl

theorem wrCmd (data : Word) : Statement (.wrCmd data) :=
  fun _ => rfl

theorem rdEncOut : Statement .rdEncOut :=
  fun _ => rfl

theorem wrEncOut (data : Word) : Statement (.wrEncOut data) :=
  fun _ => rfl

theorem rdTxdata : Statement .rdTxdata :=
  fun _ => rfl

theorem wrTxdata (data : Word) : Statement (.wrTxdata data) :=
  fun _ => rfl

theorem rdDmaAddr : Statement .rdDmaAddr :=
  fun _ => rfl

theorem wrDmaAddr (data : Word) : Statement (.wrDmaAddr data) :=
  fun _ => rfl

theorem rdFrame (k : BitVec 5) : Statement (.rdFrame k) := by
  intro _; revert k; decide

theorem wrFrame (k : BitVec 5) (data : Word) : Statement (.wrFrame k data) := by
  intro h; clear h
  show (accessWord true (frameOffset k) &&& 0x1F83#13 == 0x1100#13) = true
  clear data; revert k; decide

theorem rdRsvd (offset : BitVec 12) : Statement (.rdRsvd offset) := by
  intro h
  have h := access_low_bits false (Bool.and_eq_true _ _ ▸ h).1
  exact beq_iff_eq.mpr h

theorem wrRsvd (offset : BitVec 12) (data : Word) : Statement (.wrRsvd offset data) := by
  intro h
  have h := access_low_bits true (Bool.and_eq_true _ _ ▸ h).1
  exact beq_iff_eq.mpr h

theorem nop : Statement .nop :=
  fun _ => rfl

theorem encBit (bit : BitValue) : Statement (.encBit bit) := by
  intro _; cases bit <;> decide

theorem encPair (pair : BitVec 2) : Statement (.encPair pair) := by
  intro _; revert pair; decide

theorem encByte (byte : Byte) : Statement (.encByte byte) := by
  intro _; revert byte; decide

theorem build : Statement .build :=
  fun _ => rfl

theorem start : Statement .start :=
  fun _ => rfl

theorem rsvd67 (op : BitVec 1) : Statement (.rsvd67 op) := by
  intro _; revert op; decide

theorem rsvd8F (op : BitVec 3) : Statement (.rsvd8F op) := by
  intro _; revert op; decide

end Sys2Proof.Laws.EncodesItsRow
end

