-- ==== Sys2Proof/Tests/Slice0.lean ====
section
/-! SUPPORT. Tests with expected values from outside the model: the encodings of 30_encoding.md and the vectors of
95_test_vectors.md, named at each test; and, for every statement with hypotheses, witnesses that meet them. -/

namespace Sys2Proof.Tests

open Sys2Proof Sys2Proof.Machine

/-- Whether an instruction or a step answers a next state with `p`. -/
def after (o : Answer) (p : State → Bool) : Bool :=
  match o with
  | .next t => p t
  | .fault _ => false
  | .refused _ => false

/-- Whether a step stops with the fault `f`. -/
def faults (o : Answer) (f : Fault) : Bool :=
  match o with
  | .next _ => false
  | .fault g => decide (g = f)
  | .refused _ => false

/-- A small state: backend, channel state, BUSY and TX_INDEX; the all-off frame built; DMA_ADDR = 0x100 and exactly
the 33 bytes from there admitted. -/
def mk (k : Backend) (c : ChanState) (busy : Bool) (tx : BitVec 6) : State :=
  { State.reset with
    backend := k, chan := c, busy := busy, txIndex := tx, bytesAccepted := if k = .bbs then tx.toNat + busy.toNat else 0
    frameBackend := k
    frame := buildFrame k ⟨0, 0, 0⟩, frameValid := true
    fault := decide (c = .faulted), faultCause := if c = .faulted then .transferAbort else .none
    dmaMap := [⟨0x100, 33⟩], dmaAddr := 0x100#32 }

/-- `s` with the schedule `l`. -/
def sched (s : State) (l : List Event) : State :=
  { s with schedule := l }

/-! ### Well-formedness -/

theorem test_wf_misaligned_refused : (Instr.rdRsvd 0x01D#12).wf = false ∧ (Instr.wrRsvd 0x01E#12 0#32).wf = false := by
  decide
theorem test_wf_register_offset_refused : (Instr.rdRsvd 0x018#12).wf = false ∧ (Instr.wrRsvd 0x000#12 0#32).wf = false := by
  decide
theorem test_wf_frame_offset_refused : (Instr.rdRsvd 0x100#12).wf = false ∧ (Instr.wrRsvd 0x17C#12 0#32).wf = false := by
  decide
theorem test_wf_reserved_accepted :
    (Instr.rdRsvd 0x01C#12).wf = true ∧ (Instr.rdRsvd 0x0FC#12).wf = true ∧
    (Instr.wrRsvd 0x180#12 0#32).wf = true ∧ (Instr.wrRsvd 0xFFC#12 0#32).wf = true := by
  decide

/-! ### Decoding: each word written out from 10_state.md R23 and 30_encoding.md R98 to R103 -/

theorem test_decode_rdCtrl : decode (.bus 0b0000000000000#13 0#32) = .ok (.rdCtrl) := by decide
theorem test_decode_wrCtrl : decode (.bus 0b1000000000000#13 0x5#32) = .ok (.wrCtrl 0x5#32) := by decide
theorem test_decode_rdStatus : decode (.bus 0b0000000000100#13 0#32) = .ok (.rdStatus) := by decide
theorem test_decode_wrStatus : decode (.bus 0b1000000000100#13 0x88#32) = .ok (.wrStatus 0x88#32) := by decide
theorem test_decode_rdColor : decode (.bus 0b0000000001000#13 0#32) = .ok (.rdColor) := by decide
theorem test_decode_wrColor : decode (.bus 0b1000000001000#13 0xFF0000#32) = .ok (.wrColor 0xFF0000#32) := by decide
theorem test_decode_rdCmd : decode (.bus 0b0000000001100#13 0#32) = .ok (.rdCmd) := by decide
theorem test_decode_wrCmd : decode (.bus 0b1000000001100#13 0x4#32) = .ok (.wrCmd 0x4#32) := by decide
theorem test_decode_rdEncOut : decode (.bus 0b0000000010000#13 0#32) = .ok (.rdEncOut) := by decide
theorem test_decode_wrEncOut : decode (.bus 0b1000000010000#13 0x1#32) = .ok (.wrEncOut 0x1#32) := by decide
theorem test_decode_rdTxdata : decode (.bus 0b0000000010100#13 0#32) = .ok (.rdTxdata) := by decide
theorem test_decode_wrTxdata : decode (.bus 0b1000000010100#13 0x88#32) = .ok (.wrTxdata 0x88#32) := by decide
theorem test_decode_rdDmaAddr : decode (.bus 0b0000000011000#13 0#32) = .ok (.rdDmaAddr) := by decide
theorem test_decode_wrDmaAddr : decode (.bus 0b1000000011000#13 0x3FFB0000#32) = .ok (.wrDmaAddr 0x3FFB0000#32) := by decide
theorem test_decode_rdFrame : decode (.bus 0b0000101100100#13 0#32) = .ok (.rdFrame 25#5) := by decide
theorem test_decode_wrFrame : decode (.bus 0b1000100100000#13 0x1#32) = .ok (.wrFrame 8#5 0x1#32) := by decide
theorem test_decode_rdRsvd : decode (.bus 0b0000000011100#13 0#32) = .ok (.rdRsvd 0x01C#12) := by decide
theorem test_decode_wrRsvd : decode (.bus 0b1001000000000#13 0x1#32) = .ok (.wrRsvd 0x200#12 0x1#32) := by decide
theorem test_decode_nop : decode (.cmd 0xFFFFFFF0#32) = .ok (.nop) := by decide
theorem test_decode_encBit : decode (.cmd 0xFFFFFFE1#32) = .ok (.encBit .zero) := by decide
theorem test_decode_encPair : decode (.cmd 0x00000012#32) = .ok (.encPair 1#2) := by decide
theorem test_decode_encByte : decode (.cmd 0x1234A5F3#32) = .ok (.encByte 0xA5#8) := by decide
theorem test_decode_build : decode (.cmd 0xFFFF0004#32) = .ok (.build) := by decide
theorem test_decode_start : decode (.cmd 0x00000005#32) = .ok (.start) := by decide
theorem test_decode_rsvd67 : decode (.cmd 0x00000007#32) = .ok (.rsvd67 1#1) := by decide
theorem test_decode_rsvd8F : decode (.cmd 0x0000000A#32) = .ok (.rsvd8F 2#3) := by decide
theorem test_decode_misaligned : decode (.bus 0b1000000000010#13 0#32) = .error .misalignedAccess := by decide

/-! ### What instructions do (95_test_vectors.md) -/

/-- V6: `rd CTRL` of PG with IRQ_EN. -/
theorem test_rdCtrl : after (exec .rdCtrl { mk .pg .idle false 0 with irqEn := true }) (·.hostData == 0x6#32) = true := by
  decide
/-- V6: `wr CTRL, 0xFFFFFFFA` in PG keeps FRAME_VALID, IRQ_EN = 0. -/
theorem test_wrCtrl_same : after (exec (.wrCtrl 0xFFFFFFFA#32) (mk .pg .idle false 0))
    (fun t => t.ctrlWord == 0x2#32 && t.frameValid) = true := by decide
/-- V6: Transmitting, CTRL = 0x2, `wr CTRL, 0x4` gives 0x6. -/
theorem test_wrCtrl_locked : after (exec (.wrCtrl 0x4#32) (mk .pg .transmitting false 0))
    (fun t => t.ctrlWord == 0x6#32 && t.frameValid) = true := by decide
/-- P1: STATUS = 0x00190108 after a PG frame. -/
theorem test_rdStatus_done : after (exec .rdStatus { mk .pg .idle false 25 with done := true })
    (·.hostData == 0x00190108#32) = true := by decide
/-- V7: TRANSFER_ABORT reads 0x00000072. -/
theorem test_rdStatus_fault : after (exec .rdStatus { mk .dma .faulted false 0 with frameValid := false })
    (·.hostData == 0x00000072#32) = true := by decide
/-- V6: STATUS 0x00190188, `wr STATUS, 0xFFFFFF77` leaves it. -/
theorem test_wrStatus_keeps : after
    (exec (.wrStatus 0xFFFFFF77#32) { mk .pg .idle false 25 with done := true, cmdErr := true })
    (·.statusWord == 0x00190188#32) = true := by decide
/-- V6: Faulted with CMD_ERR, 0x000000B2, `wr STATUS, 0xFFFFFFFF` gives 0x00000032. -/
theorem test_wrStatus_faulted : after
    (exec (.wrStatus 0xFFFFFFFF#32)
      { mk .bbs .faulted false 0 with frameValid := false, faultCause := .busyViolation, cmdErr := true })
    (·.statusWord == 0x00000032#32) = true := by decide
/-- V6: `wr COLOR, 0xFFFF0000`; `rd COLOR` gives 0x00FF0000. -/
theorem test_wrColor : after (exec (.wrColor 0xFFFF0000#32) (mk .pg .idle false 0))
    (fun t => after (exec .rdColor t) (·.hostData == 0x00FF0000#32)) = true := by decide
/-- V6: CMD and the reserved offset 0xFFC read 0. -/
theorem test_rdCmd : after (exec .rdCmd { mk .pg .idle false 0 with hostData := 7#32 }) (·.hostData == 0#32) = true := by
  decide
theorem test_rdRsvd : after (exec (.rdRsvd 0xFFC#12) { mk .pg .idle false 0 with hostData := 7#32 })
    (·.hostData == 0#32) = true := by decide
/-- V3: TXDATA reads 0. -/
theorem test_rdTxdata : after (exec .rdTxdata { mk .bbs .idle false 0 with hostData := 7#32 })
    (·.hostData == 0#32) = true := by decide
/-- V1: `wr ENC_OUT` leaves ENC_OUT. -/
theorem test_wrEncOut : after (exec (.wrEncOut 0x12345678#32) { mk .bbs .idle false 0 with encOut := 9#32 })
    (fun t => after (exec .rdEncOut t) (·.hostData == 9#32)) = true := by decide
/-- V4: `wr DMA_ADDR, 0x3FFB0003` reads back 0x3FFB0000 and clears FRAME_VALID. -/
theorem test_wrDmaAddr : after (exec (.wrDmaAddr 0x3FFB0003#32) (mk .dma .idle false 0))
    (fun t => !t.frameValid && after (exec .rdDmaAddr t) (·.hostData == 0x3FFB0000#32)) = true := by decide
/-- V4: ignored while Transmitting. -/
theorem test_wrDmaAddr_ignored : after (exec (.wrDmaAddr 0x20000000#32) (mk .dma .transmitting true 0))
    (fun t => t.frameValid && !t.cmdErr && t.dmaAddr == 0x100#32) = true := by decide
/-- V3: Idle after a completed frame, a TXDATA write is rejected. -/
theorem test_wrTxdata_rejected : after (exec (.wrTxdata 0#32) (mk .bbs .idle false 33))
    (fun t => t.cmdErr && decide (t.chan = .idle)) = true := by decide
/-- V3: a 34th byte, STATUS = 0x00200032 | FV << 8. -/
theorem test_wrTxdata_busy : after (exec (.wrTxdata 0#32) (mk .bbs .transmitting true 32))
    (fun t => t.statusWord == 0x00200132#32 && t.trace == [.abort]) = true := by decide
/-- V1. -/
theorem test_encBit : after (exec (.wrCmd 0xFFFFFFF1#32) (mk .bbs .idle false 0)) (·.encOut == 0x00208044#32) = true := by
  decide
theorem test_encPair : after (exec (.encPair 2#2) (mk .bbs .faulted false 0)) (·.encOut == 0xE8#32) = true := by decide
/-- E4, V1. -/
theorem test_encByte : after (exec (.wrCmd 0x1234A5F3#32) (mk .pg .transmitting false 0))
    (·.encOut == 0x8E8EE8E8#32) = true := by decide
theorem test_encByte_lanes : after (exec (.encByte 0x1B#8) (mk .bbs .idle false 0)) (·.encOut == 0xEEE88E88#32) = true := by
  decide
/-- V2: BBS, COLOR = 0x00123456: window words 0 to 3, and word 8. -/
theorem test_build_serial : after (exec .build { mk .bbs .idle false 0 with color := 0x123456#24 })
    (fun t => t.windowWord 0 == 0x888EEE88#32 && t.windowWord 1 == 0xE8888E88#32 && t.windowWord 2 == 0xE88E8E8E#32 &&
      t.windowWord 3 == 0#32 && t.windowWord 8 == 0#32) = true := by decide
/-- V2: DMA with memory that does not admit the buffer: STATUS = 0x00000072. -/
theorem test_build_dma_abort : after
    (exec .build { mk .dma .idle false 0 with dmaMap := [⟨0x100, 32⟩], frameValid := false })
    (fun t => t.statusWord == 0x00000072#32 && t.memory == []) = true := by decide
/-- V2, red under PG: descriptor 8 is One, 24 the reset, 25 reads 0. -/
theorem test_rdFrame : after (exec .build { mk .pg .idle false 0 with color := 0xFF0000#24 })
    (fun t => t.windowWord 7 == 0x00448020#32 && t.windowWord 8 == 0x00208044#32 &&
      after (exec (.rdFrame 24#5) t) (·.hostData == 0x00000FA0#32) &&
      after (exec (.rdFrame 25#5) { t with hostData := 7#32 }) (·.hostData == 0#32)) = true := by decide
/-- V4: an accepted START in DMA mode, STATUS = 0x00000105; rejected with FRAME_VALID = 0, 0x00000080. -/
theorem test_start_dma : after (exec .start (mk .dma .idle false 9)) (·.statusWord == 0x00000105#32) = true := by decide
theorem test_start_invalid : after (exec .start { mk .dma .idle false 0 with frameValid := false })
    (·.statusWord == 0x00000080#32) = true := by decide
/-- V6: reserved opcodes in Transmitting. -/
theorem test_rsvd67 : after (exec (.wrCmd 0x6#32) (mk .pg .transmitting false 0))
    (fun t => t.cmdErr && decide (t.chan = .transmitting)) = true := by decide
theorem test_rsvd8F : after (exec (.wrCmd 0x8#32) (mk .pg .transmitting false 0))
    (fun t => t.cmdErr && decide (t.chan = .transmitting)) = true := by decide

/-! ### Engines, faults, memory -/

/-- V3: the shifter step of 0xE8 with gap 9. -/
theorem test_shifter : after (engineStep 9 { mk .bbs .transmitting true 31 with shByte := 0xE8#8 })
    (fun t => decide (Machine.norm t.trace =
      [.seg .low 9, .seg .high 75, .seg .low 25, .seg .high 25, .seg .low 75]) && !t.busy && t.txIndex == 32#6) = true := by
  decide
/-- V3: the 33rd byte completes, STATUS = 0x00210008 | FV << 8. -/
theorem test_shifter_last : after (engineStep 0 (mk .bbs .transmitting true 32))
    (·.statusWord == 0x00210108#32) = true := by decide
/-- V4: STATUS = 0x00000172 | j << 16 where the byte is not admitted. -/
theorem test_dma_abort : after (engineStep 0 { mk .dma .transmitting true 5 with dmaMap := [⟨0x100, 5⟩] })
    (fun t => t.statusWord == 0x00050172#32 && t.trace == [.abort]) = true := by decide
/-- V5: engine step 25 emits L4000 and completes with 0x00190108. -/
theorem test_pg_last : after (engineStep 0 (mk .pg .transmitting false 24))
    (fun t => t.statusWord == 0x00190108#32 && decide (Machine.norm t.trace = [.seg .low 4000])) = true := by decide
/-- V4: BUFFER_OVERRUN in DMA mode, 0x00000152 | j << 16. -/
theorem test_env_fault : after (envFaultStep .bufferOverrun (mk .dma .transmitting true 3))
    (·.statusWord == 0x00030152#32) = true := by decide
/-- V4: a host store to DMA_ADDR + 5 on loan. -/
theorem test_loan : after (hostStoreByte 0x105#32 1#8 (mk .dma .transmitting true 0))
    (fun t => decide (.loanViolation ∈ t.modelFaults) && readCell t.memory 0x105 == some 1#8) = true := by decide
/-- V8: reset in Faulted, STATUS = 0. -/
theorem test_reset : after (resetStep (mk .pg .faulted false 7)) (fun t => t.statusWord == 0#32 && !t.irq) = true := by
  decide
/-- E4, V1: the decoders. -/
theorem test_decoders : decodeByteSerial [0xE8#8, 0x88#8, 0xE8#8, 0x8E#8] = some 0x89#8 ∧
    decodeByteSerial [0xE8#8, 0x88#8, 0xE8#8, 0x00#8] = none ∧ decodeDescriptor (unpack 0x00000FA0#32) = none := by decide
theorem test_memory_canonical : memWrite (memWrite (memWrite [] 5 1#8) 3 2#8) 5 4#8 = [(3, 2#8), (5, 4#8)] := by decide

/-- P2, step 13: byte 1 of window word 0 is 0xEE; P6: `await` of STATUS 0x0021007A is Err(3). -/
theorem test_host_notation : bbsByte 0x888EEE88#32 1 = 0xEE#32 ∧ readsTransmitting 0x00000105#32 = true ∧
    (match awaitResult 0x0021007A#32 with | .error c => c == 3#2 | .ok _ => false) = true := by decide

/-! ### The step -/

/-- The word of `rd STATUS`, and the word of ENC_BYTE 0xA5, as the first instruction after reset. -/
theorem test_fetch_rdStatus : decodeTableWord 16 0x0004 = some .rdStatus ∧
    after (step (State.withFetchWord { State.reset with hostData := 7#32 } 16 0x0004)) (·.hostData == 0#32) = true := by
  decide
theorem test_fetch_encByte : decodeTableWord 32 0xA503 = some (.encByte 0xA5#8) ∧
    after (step (State.reset.withFetchWord 32 0xA503)) (·.encOut == 0x8E8EE8E8#32) = true := by decide
theorem test_step_empty : faults (step State.reset) .scheduleEmpty = true := by decide
/-- R324: a draw below the delay asked for is no draw; 500 ms is 40000000 ticks. -/
theorem test_delay_too_short : faults (step (sched (mk .pg .idle false 0) [.hostDelay 40000000 39999999])) .hostDelayTooShort =
    true := by decide
theorem test_delay : after (step (sched (mk .pg .idle false 0) [.hostDelay 40000000 40000001]))
    (fun t => t.hostWaited == 40000001 && t.trace == []) = true := by decide

/-! ### Witnesses: states and operands that meet a statement's hypotheses, its clauses one by one -/

theorem inv_mk_idle (k : Backend) (tx : BitVec 6) (h : tx.toNat ≤ frameLen k) : WseInv (mk k .idle false tx) := by
  constructor <;> simp_all [mk, State.reset, Memory.wf, risesAbove]

theorem inv_mk_faulted (k : Backend) (tx : BitVec 6) (h : tx.toNat ≤ frameLen k) : WseInv (mk k .faulted false tx) := by
  constructor <;> simp_all [mk, State.reset, Memory.wf, risesAbove]

theorem inv_mk_transmitting (k : Backend) (b : Bool) (tx : BitVec 6) (hp : k = .pg → b = false) (hd : k = .dma → b = true)
    (h : tx.toNat < frameLen k) : WseInv (mk k .transmitting b tx) := by
  have := Nat.le_of_lt h
  constructor <;> simp_all [mk, State.reset, Memory.wf, risesAbove]
  exact fun hb hk => absurd hb (by rw [hp hk]; decide)

theorem inv_sched {s : State} (h : WseInv s) (l : List Event) : WseInv (sched s l) := by
  obtain ⟨h1, h2, h3, h4, h5, h6, h7, h8, h9, h10, h11, h12, h13, h14, h15, h16⟩ := h
  exact ⟨h1, h2, h3, h4, h5, h6, h7, h8, h9, h10, h11, h12, h13, h14, h15, h16⟩

/-! Decoding. -/

theorem witness_DecodeOfEncodeIsIdentity : (Instr.rdRsvd 0x01C#12).wf = true ∧ (Instr.wrRsvd 0xFFC#12 7#32).wf = true ∧
    (Instr.rdFrame 31#5).wf = true ∧ (Instr.rsvd8F 7#3).wf = true := by decide
theorem witness_EncodeOfDecodedAccessRestoresIt : decodeAccess 0x1008#13 7#32 = .ok (.wrColor 7#32) ∧
    decodeAccess 0x0FFC#13 7#32 = .ok (.rdRsvd 0xFFC#12) := by decide
theorem witness_DecodeTakesFirstMatchingRow :
    (0x1FFF#13).extractLsb' 0 2 ≠ 0#2 ∧ (0x0001#13).extractLsb' 0 2 ≠ 0#2 ∧
    (0x0000#13).extractLsb' 0 2 = 0#2 ∧ (0x1FFC#13).extractLsb' 0 2 = 0#2 ∧
    decodeAccess 0x100C#13 0xA503#32 = .ok (.wrCmd 0xA503#32) := by decide
theorem witness_UnusedCommandBitsIgnored :
    (∀ p ∈ [(0x11#32, 0xFFFFFFF1#32), (0x22#32, 0xFFFFFFE2#32), (0xA503#32, 0x1234A5F3#32), (0x4#32, 0xFFFF0004#32)],
      p.1.extractLsb' 0 4 = p.2.extractLsb' 0 4 ∧
      (p.1.extractLsb' 0 4 = 1#4 → p.1.getLsbD 4 = p.2.getLsbD 4) ∧
      (p.1.extractLsb' 0 4 = 2#4 → p.1.extractLsb' 4 2 = p.2.extractLsb' 4 2) ∧
      (p.1.extractLsb' 0 4 = 3#4 → p.1.extractLsb' 8 8 = p.2.extractLsb' 8 8)) := by
  simp only [List.forall_mem_cons, List.not_mem_nil, false_imp_iff, implies_true, and_true]; decide

/-! The step. -/

theorem witness_StepRunsTheScheduledInstruction_access :
    (sched (mk .pg .idle false 0) [.bus ⟨.w32, true, 0x00C#12, 0x4#32⟩]).refusedMark = none ∧
    decodeAccess (accessWord true 0x00C#12) 0x4#32 = .ok (.wrCmd 0x4#32) := by decide
theorem witness_StepRunsTheScheduledInstruction_fetch : decodeTableWord 16 0x0FFC = some (.rdRsvd 0xFFC#12) ∧
    decodeTableWord 8 0x05 = some .start ∧ decodeTableWord 48 0x800001018 = some (.wrDmaAddr 0x80000#32) := by decide
theorem witness_StepRunsTheScheduledInstruction_agents (e : Event) :
    (sched (mk .pg .transmitting false 0) [e]).refusedMark = none ∧
    (sched (mk .pg .transmitting false 0) [e]).schedule = e :: [] := ⟨rfl, rfl⟩
/-- A draw that is just long enough, and one that is one tick short. -/
theorem witness_StepRunsTheScheduledInstruction_wait : 40000000 ≤ 40000000 ∧ 39999999 < 40000000 := by decide
theorem witness_IllFormedAccessRefusesTheRun :
    (sched (mk .pg .idle false 0) [.bus ⟨.w8, false, 0x004#12, 0#32⟩]).refusedMark = none ∧
    (BusAccess.mk .w8 false 0x004#12 0#32).width ≠ .w32 ∧ (BusAccess.mk .w64 true 0x002#12 0#32).width ≠ .w32 ∧
    (BusAccess.mk .w32 false 0x002#12 0#32).offset.toNat % 4 ≠ 0 ∧ (BusAccess.mk .w32 true 0xFFF#12 0#32).offset.toNat % 4 ≠ 0 := by
  decide

/-! Reads and writes. -/

theorem witness_ReadOtherRegisters : WseInv (mk .dma .idle false 33) := inv_mk_idle _ _ (by decide)
/-- The ends of the two reserved stretches. -/
theorem witness_reserved_offsets :
    ((0x01C#12).toNat % 4 = 0 ∧ 0x01C ≤ (0x01C#12).toNat ∧ (0x01C#12).toNat ≤ 0x0FC) ∧
    ((0x0FC#12).toNat % 4 = 0 ∧ 0x01C ≤ (0x0FC#12).toNat ∧ (0x0FC#12).toNat ≤ 0x0FC) ∧
    ((0x180#12).toNat % 4 = 0 ∧ 0x180 ≤ (0x180#12).toNat) ∧ ((0xFFC#12).toNat % 4 = 0 ∧ 0x180 ≤ (0xFFC#12).toNat) := by decide
/-- FRAME changes by BUILD, and by a reset. -/
theorem witness_IgnoredWritesChangeNothing_frame :
    after (step (sched { mk .pg .idle false 0 with color := 1#24 } [cmd .build]))
      (fun t => t.frame != (mk .pg .idle false 0).frame) = true ∧
    after (step (sched (mk .pg .idle false 0) [.reset])) (fun t => t.frame != (mk .pg .idle false 0).frame) = true := by decide
/-- Command words with each OP the command statements speak of, unused bits set. -/
theorem witness_command_words :
    (0xFFFFFFF0#32).extractLsb' 0 4 = 0#4 ∧ (0xFFFFFFE1#32).extractLsb' 0 4 = 1#4 ∧ (0xFFFFFFC2#32).extractLsb' 0 4 = 2#4 ∧
    (0x1234A5F3#32).extractLsb' 0 4 = 3#4 ∧ (0xFFFF0004#32).extractLsb' 0 4 = 4#4 ∧ (0x5#32).extractLsb' 0 4 = 5#4 ∧
    6 ≤ ((0x6#32).extractLsb' 0 4).toNat ∧ 6 ≤ ((0xF#32).extractLsb' 0 4).toNat := by decide
theorem witness_ReadFrameWindow :
    { mk .pg .idle false 0 with frameValid := false }.frameValid = false ∧
    (mk .pg .idle false 0).frameValid = true ∧ (mk .pg .idle false 0).frame = .pg (buildFramePG ⟨0, 0, 0⟩) ∧
    (buildFramePG ⟨0, 0, 0⟩)[(0#5).toNat]? = some (encodeBitPulse .zero) ∧
    (buildFramePG ⟨0, 0, 0⟩)[(24#5).toNat]? = some resetDescriptor ∧ 25 ≤ (25#5).toNat ∧
    (mk .dma .idle false 0).frame = .ser (buildFrameSerial ⟨0, 0, 0⟩) := by decide
theorem witness_PackPlacesDescriptorFields : resetDescriptor ∈ buildFramePG ⟨1, 2, 3⟩ ∧ resetDescriptor.length1.toNat = 4000 := by
  decide
theorem witness_WriteControl_idle : (mk .pg .idle false 0).chan = .idle ∧ (0xFFFFFFFC#32).extractLsb' 0 2 = 0#2 ∧
    (5#32).extractLsb' 0 2 = 1#2 ∧ (2#32).extractLsb' 0 2 = 2#2 := by decide
theorem witness_WriteControl_locked : (mk .pg .transmitting false 0).chan ≠ .idle ∧ (mk .pg .faulted false 0).chan ≠ .idle ∧
    (7#32).extractLsb' 0 2 = 3#2 := by decide
theorem witness_WriteStatusClears : (0x8#32).getLsbD 3 = true ∧ (mk .pg .idle false 25).fault = false := by decide
theorem witness_WriteDmaAddress : (mk .dma .transmitting true 0).chan = .transmitting ∧
    (mk .dma .idle false 0).chan ≠ .transmitting ∧ (mk .dma .faulted false 0).chan ≠ .transmitting := by decide
theorem witness_WriteTxdata : ¬((mk .dma .transmitting true 0).backend = .bbs ∧ (mk .dma .transmitting true 0).chan = .transmitting) ∧
    ¬((mk .bbs .idle false 33).backend = .bbs ∧ (mk .bbs .idle false 33).chan = .transmitting) ∧
    (mk .bbs .transmitting true 32).backend = .bbs ∧ (mk .bbs .transmitting true 32).chan = .transmitting ∧
    (mk .bbs .transmitting true 32).busy = true ∧ (mk .bbs .transmitting false 0).busy = false := by decide
theorem witness_WriteCommandPerformsIt :
    (∀ p ∈ [(0xFFFFFFF0#32, 0#4), (0x11#32, 1#4), (0x32#32, 2#4), (0xFF03#32, 3#4), (0x4#32, 4#4), (0x5#32, 5#4)],
      p.1.extractLsb' 0 4 = p.2) ∧
    6 ≤ ((0x6#32).extractLsb' 0 4).toNat ∧ 6 ≤ ((0xF#32).extractLsb' 0 4).toNat ∧
    (mk .bbs .idle false 0).chan = .idle ∧ (mk .bbs .idle false 0).backend ≠ .dma := by
  simp only [List.forall_mem_cons, List.not_mem_nil, false_imp_iff, implies_true, and_true]; decide
theorem witness_EncodeByteLanes : 0 < 4 ∧ 3 < 4 := by decide

/-! BUILD and START. The buffer at 0x100 is admitted, and with one byte less it is not; nor is one that passes the top
of memory. -/

theorem witness_BuildFrameCommand_admitted : (mk .dma .idle false 0).chan = .idle ∧ (mk .dma .idle false 0).backend = .dma ∧
    dmaAdmits (mk .dma .idle false 0).dmaMap (mk .dma .idle false 0).dmaAddr.toNat 33 = true ∧
    dmaAdmits [⟨0, 4294967296⟩] 0xFFFFFFDC 33 = true := by decide
theorem witness_BuildFrameCommand_abort : dmaAdmits [⟨0x100, 32⟩] (mk .dma .idle false 0).dmaAddr.toNat 33 = false ∧
    dmaAdmits [⟨0, 8589934592⟩] 0xFFFFFFE0 33 = false := by decide
theorem witness_BuildFrameCommand_color : (⟨0x12#8, 0x34#8, 0x56#8⟩ : Color) =
    ⟨(0x123456#24).extractLsb' 16 8, (0x123456#24).extractLsb' 8 8, (0x123456#24).extractLsb' 0 8⟩ := by decide
theorem witness_BuildFrameCommand_other : (mk .pg .transmitting false 0).chan ≠ .idle ∧ (mk .pg .faulted false 0).chan ≠ .idle ∧
    (mk .pg .idle false 0).chan = .idle ∧ (mk .pg .idle false 0).backend = .pg ∧ (mk .bbs .idle false 0).backend = .bbs := by
  decide
theorem witness_BuildWritesExactlyTheBuffer : dmaAdmits (mk .dma .idle false 0).dmaMap (mk .dma .idle false 0).dmaAddr.toNat 33 = true ∧
    0 < 33 ∧ 32 < 33 ∧ (0xFF < (mk .dma .idle false 0).dmaAddr.toNat) ∧ (mk .dma .idle false 0).dmaAddr.toNat + 33 ≤ 0x121 := by
  decide
theorem witness_StartFrameCommand : (mk .dma .faulted false 0).chan ≠ .idle ∧
    { mk .dma .idle false 0 with frameValid := false }.chan = .idle ∧ (mk .dma .idle false 0).backend ≠ .bbs ∧
    { mk .pg .idle false 0 with frameValid := false }.frameValid = false ∧
    (mk .bbs .idle false 0).backend = .bbs ∧ (mk .dma .idle false 0).frameValid = true ∧ (mk .pg .idle false 0).frameValid = true := by
  decide

/-! Engines, faults, reset, host memory. -/

theorem witness_ShifterStep : (mk .bbs .transmitting true 32).chan = .transmitting ∧ (mk .bbs .transmitting true 32).backend = .bbs ∧
    (mk .bbs .transmitting true 32).busy = true ∧ (mk .bbs .transmitting true 0).busy = true ∧
    ¬((mk .bbs .transmitting false 0).chan = .transmitting ∧ (mk .bbs .transmitting false 0).busy = true) := by decide
theorem witness_DmaEngineStep : (mk .dma .transmitting true 32).chan = .transmitting ∧ (mk .dma .transmitting true 32).backend = .dma ∧
    ¬((mk .dma .transmitting true 33).chan = .transmitting ∧ (mk .dma .transmitting true 33).txIndex.toNat < 33) ∧ (mk .dma .transmitting true 32).txIndex.toNat < 33 ∧
    dmaAdmits (mk .dma .transmitting true 32).dmaMap (0x100 + 32) 1 = true ∧ dmaAdmits [⟨0x100, 32⟩] (0x100 + 32) 1 = false := by
  decide
theorem witness_PulseGeneratorStep : (mk .pg .transmitting false 24).chan = .transmitting ∧ (mk .pg .transmitting false 24).backend = .pg ∧
    ¬((mk .pg .transmitting false 25).chan = .transmitting ∧ (mk .pg .transmitting false 25).txIndex.toNat < 25) ∧ (mk .pg .transmitting false 24).txIndex.toNat < 25 ∧
    (mk .pg .transmitting false 24).frame = .pg (buildFramePG ⟨0, 0, 0⟩) ∧
    (buildFramePG ⟨0, 0, 0⟩)[(mk .pg .transmitting false 24).txIndex.toNat]? = some resetDescriptor ∧
    (buildFramePG ⟨0, 0, 0⟩)[(mk .pg .transmitting false 0).txIndex.toNat]? = some (encodeBitPulse .zero) := by decide
theorem witness_EngineEnabledExactly_enabled : WseInv (mk .bbs .transmitting true 32) ∧
    (mk .bbs .transmitting true 32).chan = .transmitting ∧ (mk .bbs .transmitting true 32).busy = true :=
  ⟨inv_mk_transmitting _ _ _ (by decide) (by decide) (by decide), rfl, rfl⟩
theorem witness_EngineEnabledExactly_disabled : WseInv (mk .bbs .transmitting false 0) ∧
    ¬((mk .bbs .transmitting false 0).chan = .transmitting ∧
      ((mk .bbs .transmitting false 0).backend = .bbs → (mk .bbs .transmitting false 0).busy = true)) :=
  ⟨inv_mk_transmitting _ _ _ (by decide) (by decide) (by decide), by decide⟩
/-- The schedule `l`, and then reads of STATUS for ever. -/
def thenReads (l : List Event) (n : Nat) : Event :=
  l.getD n (rd 0x004#12)

theorem thenReads_past {l : List Event} {n : Nat} (h : l.length ≤ n) : thenReads l n = rd 0x004#12 := by
  simp [thenReads, h]

/-- Nothing is in flight and the run goes on. -/
def quiet (t : State) : Bool :=
  decide (t.chan = .idle) && !t.fault && decide (t.refusedMark = none)

theorem runOn_succ {σ : Nat → Event} {s t : State} {n : Nat} (h : runOn σ s n = .next t) :
    runOn σ s (n + 1) = step (t.withSchedule [σ n]) := by
  simp only [runOn, h]

/-- Once the schedule is past `l` and nothing is in flight, it stays so. -/
theorem reads_stay_quiet {l : List Event} {s : State} {k : Nat} (hk : l.length ≤ k)
    (h : ∃ t, runOn (thenReads l) s k = .next t ∧ quiet t = true) :
    ∀ n, k ≤ n → ∃ t, runOn (thenReads l) s n = .next t ∧ quiet t = true := by
  intro n hn
  induction n, hn using Nat.le_induction with
  | base => exact h
  | succ n hn ih =>
    obtain ⟨t, ht, hq⟩ := ih
    have e := thenReads_past (Nat.le_trans hk hn)
    simp only [quiet, Bool.and_eq_true, decide_eq_true_eq] at hq
    rw [runOn_succ ht, e, step_cons (s := t.withSchedule [rd 0x004#12]) (e := rd 0x004#12) (rest := []) hq.2 rfl]
    refine ⟨_, rfl, ?_⟩
    simp only [quiet, Bool.and_eq_true, decide_eq_true_eq]
    exact hq

/-- A BBS frame that waits for its last byte: the byte is written, shifted out, and then the host reads STATUS for
ever. -/
theorem witness_EngineEnabledExactly_fair :
    let s := mk .bbs .transmitting false 32
    let σ := thenReads [wr 0x014#12 0#32, .engine 5]
    WseInv s ∧ s.chan = .transmitting ∧ GoesOn σ s ∧ Undisturbed σ s ∧ WeaklyFair σ s ∧ HostFeeds σ s := by
  intro s σ
  have q := reads_stay_quiet (l := [wr 0x014#12 0#32, .engine 5]) (s := s) (k := 2) (by decide) ⟨_, rfl, by decide⟩
  have small : ∀ n, n = 0 ∨ n = 1 ∨ 2 ≤ n := by intro n; omega
  have idle : ∀ n t, 2 ≤ n → runOn σ s n = .next t → t.chan = .idle ∧ t.fault = false := by
    intro n t hn ht
    obtain ⟨u, hu, hq⟩ := q n hn
    rw [hu] at ht; cases ht
    simp only [quiet, Bool.and_eq_true, decide_eq_true_eq, Bool.not_eq_true'] at hq
    exact hq.1
  refine ⟨inv_mk_transmitting _ _ _ (by decide) (by decide) (by decide), rfl, ?_, ⟨?_, ?_⟩, ?_, ?_⟩
  · intro n
    rcases small n with rfl | rfl | hn
    · exact ⟨_, rfl⟩
    · exact ⟨_, rfl⟩
    · exact (q n hn).imp fun _ h => h.1
  · intro n
    rcases small n with rfl | rfl | hn
    · decide
    · decide
    · rw [show σ n = rd 0x004#12 from thenReads_past hn]; decide
  · intro n t ht
    rcases small n with rfl | rfl | hn
    · cases ht; rfl
    · cases ht; rfl
    · exact (idle n t hn ht).2
  · intro n h
    rcases small n with rfl | rfl | hn
    · exact ⟨1, by decide, 5, rfl⟩
    · exact ⟨1, by decide, 5, rfl⟩
    · obtain ⟨t, ht, u, hu⟩ := h n (Nat.le_refl n)
      rw [engineStep, if_neg (by rw [(idle n t hn ht).1]; decide)] at hu
      cases hu
  · intro n t ht hc _ hb
    rcases small n with rfl | rfl | hn
    · exact ⟨0, by decide, 0#32, rfl⟩
    · cases ht; cases hb
    · rw [(idle n t hn ht).1] at hc; cases hc

theorem witness_EnvFaultStep : (mk .dma .transmitting true 0).chan = .transmitting ∧ (mk .dma .transmitting true 0).backend = .dma ∧
    ¬((mk .pg .transmitting false 0).chan = .transmitting ∧ (FaultCause.bufferOverrun = .transferAbort ∨
      ((mk .pg .transmitting false 0).backend = .dma ∧ FaultCause.bufferOverrun = .bufferOverrun))) := by decide
theorem witness_FaultEntryEffect : { mk .pg .transmitting false 0 with irqEn := true }.irqEn = true := rfl
theorem witness_ResetValues : State.reset = State.reset ∨ State.reset = (mk .pg .idle false 0).blockReset := .inl rfl
theorem witness_ResetStopsTheFrame : (mk .pg .transmitting false 10).chan = .transmitting ∧ (mk .pg .idle false 0).chan ≠ .transmitting := by
  decide
theorem witness_HostStoreDuringLoan : (mk .dma .transmitting true 0).backend = .dma ∧ (mk .dma .transmitting true 0).chan = .transmitting ∧
    (mk .dma .transmitting true 0).dmaAddr.toNat ≤ (0x100#32).toNat ∧
    (0x120#32).toNat ≤ (mk .dma .transmitting true 0).dmaAddr.toNat + 32 ∧
    ¬((0x121#32).toNat ≤ (mk .dma .transmitting true 0).dmaAddr.toNat + 32) ∧
    ¬((mk .dma .transmitting true 0).dmaAddr.toNat ≤ (0xFF#32).toNat) := by decide
theorem witness_HostStoreDuringLoan_word : (0xFD#32).toNat + 4 ≤ 2 ^ 32 ∧
    (mk .dma .transmitting true 0).dmaAddr.toNat ≤ (0xFD#32).toNat + 3 ∧
    (0x120#32).toNat ≤ (mk .dma .transmitting true 0).dmaAddr.toNat + 32 ∧
    ¬((mk .dma .transmitting true 0).dmaAddr.toNat ≤ (0xFC#32).toNat + 3) := by decide
theorem witness_HostWordLanesLittleEndian : (0xFFFFFFFC#32).toNat + 4 ≤ 2 ^ 32 ∧ 2 ^ 32 < (0xFFFFFFFD#32).toNat + 4 ∧
    readCell { mk .pg .idle false 0 with memory := [(5, 7#8)] }.memory (5#32).toNat = some 7#8 := by decide

/-! Interrupt and whole machine. -/

theorem witness_InterruptClearing_fault :
    let s := sched { mk .dma .faulted false 0 with irqEn := true } [wr 0x000#12 0x1#32]
    s.irq = true ∧ s.fault = true ∧ after (step s) (fun t => !t.irq) = true := by decide
theorem witness_InterruptClearing_reset :
    let s := sched { mk .dma .faulted false 0 with irqEn := true } [.reset]
    s.irq = true ∧ s.fault = true ∧ after (step s) (fun t => !t.irq) = true := by decide
theorem witness_InterruptClearing_mask : (0x2#32).getLsbD 2 = false ∧ (mk .pg .idle false 0).fault = false := by decide
theorem witness_InterruptClearing_start :
    let s := { mk .pg .idle false 25 with irqEn := true, done := true }
    s.fault = false ∧ s.chan = .idle ∧ s.irq = true ∧
    after (exec .start s) (fun t => decide (t.chan = .transmitting) && !t.irq) = true := by decide
theorem witness_StepKeepsTheInvariant : WseInv (sched (mk .dma .transmitting true 32) [.engine 0]) ∧
    after (step (sched (mk .dma .transmitting true 32) [.engine 0])) (fun t => decide (t.chan = .idle)) = true :=
  ⟨inv_sched (inv_mk_transmitting _ _ _ (by decide) (by decide) (by decide)) _, by decide⟩
theorem witness_StateTransitionsExactly_start : WseInv (sched (mk .pg .idle false 25) [cmd .start]) ∧
    after (step (sched (mk .pg .idle false 25) [cmd .start])) (fun t => decide (t.chan = .transmitting)) = true :=
  ⟨inv_sched (inv_mk_idle _ _ (by decide)) _, by decide⟩
theorem witness_StateTransitionsExactly_complete : WseInv (sched (mk .pg .transmitting false 24) [.engine 3]) ∧
    after (step (sched (mk .pg .transmitting false 24) [.engine 3])) (fun t => decide (t.chan = .idle)) = true :=
  ⟨inv_sched (inv_mk_transmitting _ _ _ (by decide) (by decide) (by decide)) _, by decide⟩
theorem witness_StateTransitionsExactly_fault : WseInv (sched (mk .bbs .transmitting true 5) [wr 0x014#12 0#32]) ∧
    after (step (sched (mk .bbs .transmitting true 5) [wr 0x014#12 0#32])) (fun t => decide (t.chan = .faulted)) = true :=
  ⟨inv_sched (inv_mk_transmitting _ _ _ (by decide) (by decide) (by decide)) _, by decide⟩
theorem witness_StateTransitionsExactly_build : WseInv (sched { mk .dma .idle false 0 with dmaMap := [] } [cmd .build]) ∧
    after (step (sched { mk .dma .idle false 0 with dmaMap := [] } [cmd .build])) (fun t => decide (t.chan = .faulted)) = true := by
  obtain ⟨h1, h2, h3, h4, h5, h6, h7, h8, h9, h10, h11, h12, h13, h14, h15, h16⟩ := inv_mk_idle .dma 0 (by decide)
  exact ⟨⟨h1, h2, h3, h4, h5, h6, h7, h8, h9, h10, h11, h12, h13, h14, h15, h16⟩, by decide⟩
theorem witness_StateTransitionsExactly_reset : WseInv (sched (mk .pg .faulted false 9) [.reset]) ∧
    after (step (sched (mk .pg .faulted false 9) [.reset])) (fun t => decide (t.chan = .idle)) = true :=
  ⟨inv_sched (inv_mk_faulted _ _ (by decide)) _, by decide⟩
theorem witness_FaultedIsLeftOnlyByReset : WseInv (sched (mk .pg .faulted false 9) [clrdone]) ∧
    (mk .pg .faulted false 9).chan = .faulted ∧ clrdone ≠ .reset ∧
    after (step (sched (mk .pg .faulted false 9) [clrdone])) (fun _ => true) = true :=
  ⟨inv_sched (inv_mk_faulted _ _ (by decide)) _, rfl, by decide, by decide⟩
theorem witness_CheckOrderInsideAnAccess : (mk .dma .transmitting true 0).chan ≠ .idle ∧
    { mk .dma .transmitting true 0 with frameValid := false }.frameValid = false ∧ (mk .bbs .faulted false 0).chan = .faulted ∧
    (mk .bbs .transmitting true 0).chan = .transmitting ∧ (mk .bbs .transmitting true 0).backend = .bbs ∧
    (mk .bbs .transmitting true 0).busy = true ∧ (mk .dma .transmitting true 0).backend = .dma ∧
    dmaAdmits [⟨0x100, 32⟩] (mk .dma .transmitting true 0).dmaAddr.toNat 33 = false := by decide
/-- Both checks of R310 would fire: another mode's frame in flight, and BUSY = 1. -/
theorem witness_CheckOrderInsideAnAccess_mode : (mk .dma .transmitting true 0).chan = .transmitting ∧
    (mk .dma .transmitting true 0).backend ≠ .bbs ∧ (mk .dma .transmitting true 0).busy = true := by decide
theorem witness_RejectionExactly_rejects : Rejects .start (sched (mk .pg .transmitting false 0) [cmd .start]) ∧
    performedBy (cmd .start) = some .start ∧ Rejects .start { mk .dma .idle false 0 with frameValid := false } ∧
    Rejects .build (mk .pg .faulted false 0) ∧ Rejects (.wrTxdata 0#32) (mk .pg .transmitting false 0) ∧
    Rejects (.rsvd67 1#1) (mk .pg .idle false 0) ∧ Rejects (.rsvd8F 0#3) (mk .pg .idle false 0) := by
  refine ⟨?_, by decide, ?_, ?_, ?_, ?_, ?_⟩ <;> simp [Rejects, mk, sched]
theorem witness_RejectionExactly_accepts : ¬Rejects .start (sched (mk .pg .idle false 0) [cmd .start]) ∧
    (sched (mk .pg .idle false 0) [cmd .start]).refusedMark = none ∧
    after (step (sched { mk .pg .idle false 0 with cmdErr := true } [cmd .start])) (·.cmdErr) = true := by
  refine ⟨?_, rfl, by decide⟩; simp [Rejects, mk, sched]
theorem witness_FrameValidClearedExactly :
    (mk .pg .idle false 0).frameValid = true ∧
    after (step (sched (mk .pg .idle false 0) [.reset])) (fun t => !t.frameValid) = true ∧
    after (step (sched (mk .pg .idle false 0) [wr 0x000#12 1#32])) (fun t => !t.frameValid) = true ∧
    after (step (sched (mk .dma .idle false 0) [wr 0x018#12 0x100#32])) (fun t => !t.frameValid) = true ∧
    after (step (sched (mk .bbs .idle false 0) [wr 0x018#12 0x100#32])) (·.frameValid) = true := by decide
theorem witness_OnlyEncoderCommandsWriteEncOut :
    after (step (sched (mk .bbs .idle false 0) [cmd (.encByte 0#8)])) (fun t => t.encOut != (mk .bbs .idle false 0).encOut) = true ∧
    after (step (sched { mk .bbs .idle false 0 with encOut := 1#32 } [.reset])) (fun t => t.encOut != 1#32) = true := by decide
theorem witness_AccessesDoNotDisturbAFrameInFlight : (mk .bbs .transmitting true 0).chan = .transmitting ∧
    after (exec (.wrTxdata 0#32) (mk .bbs .transmitting true 0)) (fun t => decide (t.chan = .faulted)) = true ∧
    after (exec (.wrTxdata 0#32) (mk .bbs .transmitting false 0)) (·.busy) = true := by decide
theorem witness_OnlyEnginesAndFaultsEmit : Event.engine 0 ≠ .reset ∧
    after (step (sched (mk .pg .transmitting false 0) [.engine 0])) (·.trace != []) = true ∧
    after (step (sched (mk .pg .transmitting false 0) [.envFault .transferAbort])) (·.trace == [.abort]) = true := by decide
theorem witness_OnlyStoresAndBuildWriteMemory :
    after (step (sched (mk .bbs .idle false 0) [.hostStoreByte 5#32 1#8])) (fun t => readCell t.memory 5 != none) = true ∧
    after (step (sched (mk .bbs .idle false 0) [.hostStoreWord 0xFFFFFFFC#32 1#32]))
      (fun t => readCell t.memory 0xFFFFFFFF != none) = true ∧
    after (step (sched (mk .dma .idle false 0) [cmd .build])) (fun t => readCell t.memory 0x120 != none) = true := by decide
theorem witness_ModelFaultsAreNeverLost :
    let s := sched { mk .pg .idle false 0 with modelFaults := [.loanViolation] } [.reset]
    .loanViolation ∈ s.modelFaults ∧ after (step s) (fun t => t.modelFaults == [] && t.past.length == 1) = true := by decide
/-- A good run whose frame a reset cuts short is still good; a run with a fault is bad after a reset too. -/
theorem witness_ModelFaultsAreNeverLost_good :
    after (step (sched (mk .pg .transmitting false 3) [.reset])) (fun t => !t.fault && t.modelFaults == [] &&
      decide (t.refusedMark = none) && t.past.all fun e => !e.fault && e.modelFaults == []) = true ∧
    after (step (sched (mk .dma .faulted false 0) [.reset])) (fun t => t.past.any (·.fault)) = true := by decide
theorem witness_DecodersInvertTheEncoders : decodeByteSerial [0xE8#8, 0xE8#8, 0x8E#8, 0x8E#8] = some 0xA5#8 := by decide
theorem witness_FrameBitOrder : 0 < 24 ∧ 23 < 24 := by decide

/-! Whole frames. -/

/-- The schedule of a whole frame meets its statement's premise. -/
theorem witness_PulseFrameIsSentWhole :
    let s := sched (mk .pg .idle false 7) (cmd .build :: cmd .start :: ((List.replicate 25 4).map .engine ++ []))
    s.refusedMark = none ∧ s.chan = .idle ∧ s.backend = .pg ∧ (List.replicate 25 4).length = 25 := by decide
theorem witness_DmaFrameIsSentWhole :
    let s := sched (mk .dma .idle false 7) (cmd .build :: cmd .start :: ((List.replicate 33 4).map .engine ++ [clrdone]))
    s.refusedMark = none ∧ s.chan = .idle ∧ s.backend = .dma ∧ dmaAdmits s.dmaMap s.dmaAddr.toNat 33 = true ∧
    (List.replicate 33 4).length = 33 := by decide
theorem witness_BitBangedFrameIsSentWhole :
    let s := sched (mk .bbs .idle false 7) (cmd .start :: (bbsFeed (List.replicate 33 0xE8#8) (List.replicate 33 4) ++ []))
    s.refusedMark = none ∧ s.chan = .idle ∧ s.backend = .bbs ∧ (List.replicate 33 0xE8#8).length = 33 := by decide
theorem witness_FaultIsPreciseAtUnitBoundary :
    let s := sched (mk .pg .idle false 7) (cmd .start :: ((List.replicate 24 0).map .engine ++ .envFault .transferAbort :: []))
    s.refusedMark = none ∧ s.chan = .idle ∧ s.backend = .pg ∧ s.frameValid = true ∧ s.frame = .pg (buildFramePG ⟨0, 0, 0⟩) ∧
    (List.replicate 24 0).length ≤ 24 ∧ ([] : List Nat).length ≤ 24 := by decide
/-- 32 bytes out, the last byte's read not admitted; and no byte out, the first one's not admitted. -/
theorem witness_FaultIsPreciseAtUnitBoundary_dma :
    let s := sched { mk .dma .idle false 7 with dmaMap := [⟨0x100, 32⟩] }
      (cmd .start :: ((List.replicate 32 0).map .engine ++ .engine 0 :: []))
    s.refusedMark = none ∧ s.chan = .idle ∧ s.backend = .dma ∧ s.frameValid = true ∧ (List.replicate 32 0).length ≤ 32 ∧
    (∀ j, j < 32 → dmaAdmits s.dmaMap (s.dmaAddr.toNat + j) 1 = true) ∧ dmaAdmits s.dmaMap (s.dmaAddr.toNat + 32) 1 = false ∧
    ([] : List Nat).length ≤ 32 ∧ dmaAdmits [] (s.dmaAddr.toNat + 0) 1 = false := by decide
theorem witness_FaultIsPreciseAtUnitBoundary_bbs :
    let s := sched (mk .bbs .idle false 7) (cmd .start :: (bbsFeed (List.replicate 32 1#8) (List.replicate 32 4) ++
      wr 0x014#12 ((2#8).zeroExtend 32) :: wr 0x014#12 ((3#8).zeroExtend 32) :: []))
    s.refusedMark = none ∧ s.chan = .idle ∧ s.backend = .bbs ∧ (List.replicate 32 1#8).length ≤ 32 ∧
    (List.replicate 32 4).length = (List.replicate 32 1#8).length ∧ ([] : List Byte).length ≤ 32 := by decide

end Sys2Proof.Tests
end

section
/-! PROOF. What each operation does to the trace (00_scope.md R15, 10_state.md R47): START, a host store and the end of
a unit emit nothing, an engine step only appends, and an access appends at most the marker X of a fault. -/

namespace Sys2Proof.Machine

@[simp] theorem State.startFrame_trace (s : State) : s.startFrame.trace = s.trace := by
  rw [startFrame_eq]

@[simp] theorem State.storeBytes_trace (s : State) (a : Nat) (bytes : List Byte) :
    (s.storeBytes a bytes).trace = s.trace := by
  rw [storeBytes_eq]

@[simp] theorem State.endUnit_trace (s : State) : s.endUnit.trace = s.trace := by
  rcases endUnit_cases s with ⟨_, h⟩ | ⟨_, h⟩ <;> simp [h]

/-- An engine step is taken in Transmitting, and what it emits comes after the trace so far. -/
theorem engineStep_appends_trace {g : Nat} {s t : State} (h : engineStep g s = .next t) :
    s.chan = .transmitting ∧ ∃ xs, t.trace = s.trace ++ xs := by
  obtain ⟨hc, h⟩ := engineStep_next h
  refine ⟨hc, ?_⟩
  rcases h with ⟨_, _, rfl⟩ | ⟨_, _, _, rfl⟩ | ⟨_, _, _, rfl⟩ | ⟨_, _, d, _, rfl⟩
  · exact ⟨.seg .low g :: serBits s.shByte, by simp⟩
  · exact ⟨serBits (memRead s.memory s.dmaNext), by simp⟩
  · exact ⟨[.abort], by simp [hc]⟩
  · exact ⟨pulseSegments d, by simp⟩

/-- The one access that emits is the TXDATA write of a BUSY_VIOLATION; BUILD's fault is entered from Idle, without X. -/
theorem exec_keeps_trace_or_aborts {i : Instr} {s t : State} (hi : ∀ w, i ≠ .wrCmd w) (h : exec i s = .next t) :
    t.trace = s.trace ∨ (s.chan = .transmitting ∧ t.trace = s.trace ++ [.abort] ∧ t.chan = .faulted) := by
  rcases exec_next hi h with rfl | ⟨v, rfl⟩ | ⟨_, rfl⟩ | ⟨v, rfl, _⟩ | ⟨d, _, rfl⟩ | ⟨d, nb, _, _, rfl⟩ | ⟨d, _, rfl⟩ |
    ⟨d, _, rfl⟩ | ⟨d, _, _, rfl⟩ | ⟨d, _, _, htx, _, rfl⟩ | ⟨d, _, _, _, _, rfl⟩ | ⟨_, _, _, rfl⟩ |
    ⟨_, _, _, _, rfl⟩ | ⟨_, hidle, _, _, rfl⟩ | ⟨_, _, _, rfl⟩
  -- the two fault entries: BUILD's (14th) and BUSY_VIOLATION (10th)
  on_goal 14 => left; simp [hidle]
  on_goal 10 => exact .inr ⟨htx, by simp [htx], rfl⟩
  all_goals left; simp

/-- Settles O48, by the event of the step: only an engine event, a faulting access and an Env fault touch the trace. -/
theorem onlyEnginesAndFaultsEmit : Obligations.OnlyEnginesAndFaultsEmit := by
  intro s t e rest hs h he
  rcases step_all hs h with ⟨i, _, hi, h⟩ | ⟨acc, r, _, _, rfl⟩ | ⟨a, v, _, rfl⟩ | ⟨a, v, _, rfl⟩ |
    ⟨a, w, _, _, rfl⟩ | ⟨d, n, _, _, rfl⟩ | ⟨g, rfl, h⟩ | ⟨c, _, hc, _, rfl⟩ | ⟨rfl, _⟩ | ⟨m, _, rfl⟩
  · exact (exec_keeps_trace_or_aborts hi h).imp id fun ⟨hc, hx, hf⟩ => ⟨hc, _, hx, .inr ⟨rfl, hf⟩⟩
  · left; simp
  · left; simp
  · left; simp
  · left; simp
  · left; simp
  · obtain ⟨hc, xs, hx⟩ := engineStep_appends_trace h
    exact .inr ⟨hc, xs, hx, .inl ⟨g, rfl⟩⟩
  · exact .inr ⟨hc, [.abort], by simp [hc], .inr ⟨rfl, rfl⟩⟩
  · exact absurd rfl he
  · left; simp

end Sys2Proof.Machine
end

section
/-! PROOF. The invariant of 10_state.md R49, operation by operation: each operation of the model keeps it in the states
in which the machine takes it. The steps, and with them the runs from reset, follow. -/

namespace Sys2Proof.Machine

variable {s : State}

/-! ### Operations that touch no field the invariant reads -/

theorem WseInv.withSchedule (h : WseInv s) (rest : List Event) : WseInv (s.withSchedule rest) := { h with }

theorem WseInv.answer (h : WseInv s) (v : Word) : WseInv (s.answer v) := { h with }

theorem WseInv.reject (h : WseInv s) : WseInv s.reject := { h with }

theorem WseInv.setEncOut (h : WseInv s) (v : Word) : WseInv (s.setEncOut v) := { h with }

theorem WseInv.setIrqEn (h : WseInv s) (b : Bool) : WseInv (s.setIrqEn b) := { h with }

theorem WseInv.setFlags (h : WseInv s) (d e : Bool) : WseInv { s with done := d, cmdErr := e } := { h with }

theorem WseInv.setColor (h : WseInv s) (c : BitVec 24) : WseInv { s with color := c } := { h with }

theorem WseInv.passTicks (h : WseInv s) (n : Nat) : WseInv (s.passTicks n) := { h with }

theorem WseInv.setDmaMap (h : WseInv s) (spans : List Span) : WseInv (s.setDmaMap spans) := { h with }

theorem WseInv.markRefused (h : WseInv s) (r : Refusal) : WseInv (s.markRefused r) := { h with }

/-! ### Register writes and commands -/

/-- Outside Transmitting nothing is in flight. -/
theorem WseInv.not_busy (h : WseInv s) (hc : s.chan ≠ .transmitting) : s.busy = false :=
  Bool.eq_false_iff.mpr fun hb => hc (h.busyMode hb).1

theorem WseInv.setBackend (h : WseInv s) (hc : s.chan = .idle) (nb : Backend) : WseInv (s.setBackend nb) :=
  { h with
    busyMode := fun hb => by simp [h.not_busy, hc] at hb
    dmaBusy := fun ht => by simp [hc] at ht
    frameMode := fun ht => by simp [hc] at ht
    frameBuilt := fun hv => by
      obtain ⟨valid, rfl⟩ : s.frameValid = true ∧ nb = s.backend := by simpa using hv
      exact h.frameBuilt valid
    frameNeeded := fun ht => by simp [hc] at ht
    txInFrame := fun ht => by simp [hc] at ht }

/-- R286 clears the bits that R40 wants clear. -/
theorem dmaAddrField_aligned (data : Word) : (dmaAddrField data).extractLsb' 0 2 = 0#2 := by
  unfold dmaAddrField
  ext i hi
  interval_cases i <;> simp

theorem WseInv.setDmaAddr (h : WseInv s) (hc : s.chan ≠ .transmitting) (data : Word) (b : Bool) :
    WseInv { s with dmaAddr := dmaAddrField data, frameValid := s.frameValid && b } :=
  { h with
    dmaAligned := dmaAddrField_aligned data
    frameBuilt := fun hv => h.frameBuilt (Bool.and_eq_true _ _ ▸ hv).1
    frameNeeded := fun ht => absurd ht hc }

/-- A fault is taken from Idle or Transmitting: the byte in flight is accepted and never counted (log 12). -/
theorem WseInv.faultEntry (h : WseInv s) (hc : s.chan ≠ .faulted) {c : FaultCause} (hn : c ≠ .none) :
    WseInv (s.faultEntry c) :=
  { h with
    faultIffFaulted := by simp
    causeIffFault := by simp [hn]
    busyMode := by simp
    dmaBusy := by simp
    frameMode := by simp
    accepted := by simp
    acceptedFaulted := fun hb _ => by
      have := h.accepted hb hc
      have := s.busy.toNat_le
      simp only [State.faultEntry_bytesAccepted, State.faultEntry_txIndex]
      omega
    frameNeeded := by simp
    txInFrame := by simp
    lineLow := rfl }

theorem WseInv.latchByte (h : WseInv s) (hb : s.backend = .bbs) (hc : s.chan = .transmitting) (hy : s.busy = false)
    (v : Byte) : WseInv (s.latchByte v) :=
  have hf : s.frameBackend = .bbs := (h.frameMode hc).trans hb
  { h with
    busyMode := by simp [hb, hc]
    dmaBusy := by simp
    accepted := fun _ hn => by simpa [hy] using h.accepted hf hn
    acceptedFaulted := by simp [hc]
    acceptedNone := by simp [hf] }

theorem WseInv.loadFrame (h : WseInv s) : WseInv s.loadFrame :=
  { h with
    frameBuilt := fun _ => ⟨colorOf s.color, by simp⟩
    frameNeeded := by simp }

/-- Memory in canonical form, and a set of model faults, may replace those of the state. -/
theorem WseInv.setMemory (h : WseInv s) {m : Memory} (hm : Memory.wf m = true) {l : List ModelFault} (hl : l.Nodup) :
    WseInv { s with memory := m, modelFaults := l } :=
  { h with
    memoryWf := hm
    modelFaultsOnce := hl }

theorem WseInv.storeFrame (h : WseInv s) (ha : dmaAdmits s.dmaMap s.dmaAddr.toNat Config.serFrameLen = true) :
    WseInv s.storeFrame := by
  unfold State.storeFrame
  refine h.setMemory (memWriteBytes_wf _ _ _ ?_ h.memoryWf) h.modelFaultsOnce
  rw [buildFrameSerial_length]
  exact dmaAdmits_inside ha

theorem frameLen_pos (k : Backend) : 0 < frameLen k := by cases k <;> decide

/-- Whichever the transport, START opens the frame with BUSY = 1 in DMA mode alone. -/
theorem startFrame_eq_openFrame (hy : s.busy = false) :
    s.startFrame = s.openFrame.setBusy (decide (s.backend = .dma)) := by
  unfold State.startFrame
  cases hb : s.backend <;>
    simp [State.startBbs, State.startDma, State.startPg, State.setBusy, State.openFrame, hy]

theorem WseInv.startFrame (h : WseInv s) (hc : s.chan = .idle) (hv : s.backend ≠ .bbs → s.frameValid = true) :
    WseInv s.startFrame := by
  have hf : s.fault = false := by simpa [hc] using h.faultIffFaulted
  rw [startFrame_eq_openFrame (h.not_busy (by simp [hc]))]
  exact { h with
    faultIffFaulted := by simp [hf]
    busyMode := by simp +contextual
    dmaBusy := by simp
    frameMode := fun _ => rfl
    accepted := by simp +contextual
    acceptedFaulted := by simp
    acceptedNone := fun _ => rfl
    frameNeeded := fun _ => hv
    txInFrame := fun _ => frameLen_pos _
    txBound := Nat.zero_le _ }

/-! ### Host stores, faults, reset -/

/-- R328: a model fault enters the set once. -/
theorem storeBytes_modelFaults_nodup (h : s.modelFaults.Nodup) (a : Nat) (bytes : List Byte) :
    (s.storeBytes a bytes).modelFaults.Nodup := by
  unfold State.storeBytes
  dsimp only
  split
  · rw [State.recordModelFault_modelFaults]
    split
    · exact h
    · rename_i hnew
      exact h.append (List.nodup_singleton _) (by simpa using hnew)
  · exact h

theorem WseInv.storeBytes (h : WseInv s) {a : Nat} {bytes : List Byte} (ha : a + bytes.length ≤ Config.addressSpace) :
    WseInv (s.storeBytes a bytes) := by
  rw [storeBytes_eq]
  exact h.setMemory (memWriteBytes_wf _ _ _ ha h.memoryWf) (storeBytes_modelFaults_nodup h.modelFaultsOnce _ _)

/-- Settles O39, fact by fact: each is about the fixed state of R50, and FRAME_VALID is 0 there. -/
theorem invariantHoldsAtReset : Obligations.InvariantHoldsAtReset :=
  { memoryWf := reset_memory_wf
    dmaAligned := by decide
    faultIffFaulted := by decide
    causeIffFault := by decide
    busyMode := by decide
    dmaBusy := by decide
    frameMode := by decide
    accepted := by decide
    acceptedFaulted := by decide
    acceptedNone := by decide
    frameBuilt := nofun
    frameNeeded := by decide
    txInFrame := by decide
    txBound := by decide
    lineLow := rfl
    modelFaultsOnce := List.nodup_nil }

theorem WseInv.blockReset (h : WseInv s) : WseInv s.blockReset :=
  { invariantHoldsAtReset with memoryWf := h.memoryWf }

/-! ### The engine -/

/-- What an engine's unit leaves before it is counted: `xs` is emitted, and BUSY is 1 in DMA mode alone. -/
def State.sendUnit (xs : List TraceElem) (s : State) : State :=
  { s with trace := s.trace ++ xs, line := .low, busy := decide (s.backend = .dma) }

@[simp] theorem State.sendUnit_backend (xs : List TraceElem) : (s.sendUnit xs).backend = s.backend := rfl
@[simp] theorem State.sendUnit_chan (xs : List TraceElem) : (s.sendUnit xs).chan = s.chan := rfl
@[simp] theorem State.sendUnit_busy (xs : List TraceElem) : (s.sendUnit xs).busy = decide (s.backend = .dma) := rfl
@[simp] theorem State.sendUnit_fault (xs : List TraceElem) : (s.sendUnit xs).fault = s.fault := rfl
@[simp] theorem State.sendUnit_txIndex (xs : List TraceElem) : (s.sendUnit xs).txIndex = s.txIndex := rfl
@[simp] theorem State.sendUnit_bytesAccepted (xs : List TraceElem) :
    (s.sendUnit xs).bytesAccepted = s.bytesAccepted := rfl
@[simp] theorem State.sendUnit_frameBackend (xs : List TraceElem) : (s.sendUnit xs).frameBackend = s.frameBackend := rfl

/-- In a state of the invariant an engine step counts a unit sent, or takes TRANSFER_ABORT. -/
theorem WseInv.engineStep_counts_or_aborts (h : WseInv s) {g : Nat} {t : State} (ht : engineStep g s = .next t) :
    s.chan = .transmitting ∧ (s.backend = .bbs → s.busy = true) ∧
    ((∃ xs, t = (s.sendUnit xs).endUnit) ∨ t = s.faultEntry .transferAbort) := by
  obtain ⟨hc, ht⟩ := engineStep_next ht
  refine ⟨hc, ?_⟩
  rcases ht with ⟨hb, hy, rfl⟩ | ⟨hb, _, _, rfl⟩ | ⟨hb, _, _, rfl⟩ | ⟨hb, _, d, hd, rfl⟩
  · refine ⟨fun _ => hy, .inl ⟨.seg .low g :: serBits s.shByte, ?_⟩⟩
    simp [State.sendUnit, State.emit, State.shiftOut, State.lineIdle, State.setBusy, hb]
  · refine ⟨by simp [hb], .inl ⟨serBits (memRead s.memory s.dmaNext), ?_⟩⟩
    simp [State.sendUnit, State.shiftOut, State.lineIdle, hb, h.dmaBusy hc hb]
  · exact ⟨by simp [hb], .inr rfl⟩
  · refine ⟨by simp [hb], .inl ⟨pulseSegments d, ?_⟩⟩
    obtain ⟨c, hf⟩ := h.frameBuilt (h.frameNeeded hc (by simp [hb]))
    have hy : s.busy = false := Bool.eq_false_iff.mpr fun hy => (h.busyMode hy).2 hb
    have hd : (buildFramePG c)[s.txIndex.toNat]? = some d := by
      simpa [State.nextDescriptor, hf, hb, buildFrame] using hd
    simp [State.sendUnit, State.emitPulse, State.emit, pulseSegments, buildFramePG_level2 c hd, levelOf, hb, hy]

/-- The unit counted, the frame is complete at its length, or goes on with a unit less to come. -/
theorem WseInv.endUnit (h : WseInv s) (hc : s.chan = .transmitting) (hy : s.backend = .bbs → s.busy = true)
    (xs : List TraceElem) : WseInv (s.sendUnit xs).endUnit := by
  have hlen : frameLen s.backend ≤ 33 := by cases s.backend <;> decide
  have hin : s.txIndex.toNat < frameLen s.backend := h.txInFrame hc
  have hx : (s.txIndex + 1#6).toNat = s.txIndex.toNat + 1 := txIndex_succ hin (by omega)
  have hfb : s.frameBackend = s.backend := h.frameMode hc
  have hf : s.fault = false := by simpa [hc] using h.faultIffFaulted
  have hacc : s.backend = .bbs → s.bytesAccepted = s.txIndex.toNat + 1 := fun hb => by
    simpa [hy hb] using h.accepted (hfb.trans hb) (by simp [hc])
  rcases endUnit_cases (s.sendUnit xs) with ⟨hend, hu⟩ | ⟨hend, hu⟩ <;> rw [hu] <;>
    rw [State.countUnit_txIndex, State.sendUnit_txIndex, hx, State.sendUnit_backend] at hend
  · exact { h with
      faultIffFaulted := by simp [hf]
      busyMode := by simp
      dmaBusy := by simp
      frameMode := by simp
      accepted := by simpa [hx, hfb] using hacc
      acceptedFaulted := by simp
      frameNeeded := by simp
      txInFrame := by simp
      txBound := by simpa [hx, hfb] using hin
      lineLow := rfl }
  · exact { h with
      busyMode := by simp +contextual [hc]
      dmaBusy := by simp
      accepted := by simp +contextual [hx, hfb, hacc]
      acceptedFaulted := by simp [hc]
      txInFrame := fun _ => by simpa [hx] using Nat.lt_of_le_of_ne hin hend
      txBound := by simpa [hx, hfb] using hin
      lineLow := rfl }

theorem WseInv.of_engineStep (h : WseInv s) {g : Nat} {t : State} (ht : engineStep g s = .next t) : WseInv t := by
  obtain ⟨hc, hy, ⟨xs, rfl⟩ | rfl⟩ := h.engineStep_counts_or_aborts ht
  · exact h.endUnit hc hy xs
  · exact h.faultEntry (by simp [hc]) (by decide)

/-! ### The step -/

theorem WseInv.of_exec (h : WseInv s) {i : Instr} {t : State} (hi : ∀ w, i ≠ .wrCmd w) (ht : exec i s = .next t) :
    WseInv t := by
  rcases exec_next hi ht with rfl | ⟨v, rfl⟩ | ⟨_, rfl⟩ | ⟨v, rfl, _⟩ | ⟨d, _, rfl⟩ | ⟨d, nb, _, hc, rfl⟩ | ⟨d, _, rfl⟩ |
    ⟨d, _, rfl⟩ | ⟨d, _, hc, rfl⟩ | ⟨d, _, _, hc, _, rfl⟩ | ⟨d, _, hb, hc, hy, rfl⟩ | ⟨_, _, _, rfl⟩ |
    ⟨_, _, _, ha, rfl⟩ | ⟨_, hc, _, _, rfl⟩ | ⟨_, hc, hv, rfl⟩
  · exact h
  · exact h.answer v
  · exact h.reject
  · exact h.setEncOut v
  · exact h.setIrqEn _
  · exact (h.setIrqEn (ctrlIrqEn d)).setBackend hc nb
  · exact h.setFlags _ _
  · exact h.setColor _
  · exact h.setDmaAddr hc d _
  · exact h.faultEntry (by simp [hc]) (by decide)
  · exact h.latchByte hb hc hy _
  · exact h.loadFrame
  · exact (h.storeFrame ha).loadFrame
  · exact h.faultEntry (by simp [hc]) (by decide)
  · exact h.startFrame hc hv

/-- The Env draws a cause, never FAULT_CAUSE 0 (R304). -/
theorem envCauses_ne_none {k : Backend} {c : FaultCause} (hm : c ∈ envCauses k) : c ≠ .none := by
  rintro rfl
  cases k <;> simp [envCauses] at hm

/-- Settles O40, by the event of the step. -/
theorem stepKeepsTheInvariant : Obligations.StepKeepsTheInvariant := by
  intro s t h ht
  obtain ⟨_, e, rest, hs, _⟩ := step_next ht
  have hr := h.withSchedule rest
  rcases step_all hs ht with ⟨i, _, hi, ht⟩ | ⟨_, r, _, _, rfl⟩ | ⟨_, v, _, rfl⟩ | ⟨a, v, _, rfl⟩ | ⟨a, w, _, ha, rfl⟩ |
    ⟨_, n, _, _, rfl⟩ | ⟨g, _, ht⟩ | ⟨c, _, hc, hm, rfl⟩ | ⟨_, rfl⟩ | ⟨m, _, rfl⟩
  · exact hr.of_exec hi ht
  · exact h.markRefused r
  · exact hr.answer v
  · exact hr.storeBytes (bytes := [v]) a.isLt
  · exact hr.storeBytes (bytes := wordBytes w) ha
  · exact hr.passTicks n
  · exact hr.of_engineStep ht
  · exact hr.faultEntry (by simp [hc]) (envCauses_ne_none hm)
  · exact hr.blockReset
  · exact hr.setDmaMap m

/-- A run keeps the invariant, so every state that a run reaches from reset meets it. -/
theorem WseInv.of_run (h : WseInv s) {n : Nat} {t : State} (ht : Sys2Proof.core.run n s = .next t) : WseInv t := by
  induction n generalizing s with
  | zero => cases ht; exact h
  | succ n ih =>
    simp only [Host.Core.run] at ht
    split at ht
    · rename_i u hu
      exact ih (stepKeepsTheInvariant s u h hu) ht
    · cases ht
    · cases ht

end Sys2Proof.Machine
end

section
/-! PROOF. Two bullets of 10_state.md R49, read by the BACKEND of the moment, fail in runs from reset. -/

namespace Sys2Proof.Machine

/-- Whether `n` steps of the schedule `l` from reset reach a state with `p`. -/
def reaches (l : List Event) (n : Nat) (p : State → Bool) : Bool :=
  match Sys2Proof.core.run n { State.reset with schedule := l } with
  | .next t => p t
  | .fault _ => false
  | .refused _ => false

theorem reaches_iff {l : List Event} {n : Nat} {p : State → Bool} : reaches l n p = true ↔
    ∃ t, Sys2Proof.core.run n { State.reset with schedule := l } = .next t ∧ p t = true := by
  unfold reaches
  constructor
  · intro h
    split at h
    · exact ⟨_, ‹_›, h⟩
    · cases h
    · cases h
  · rintro ⟨t, ht, hp⟩
    rw [ht]
    exact hp

/-- A run of one step is that step. -/
theorem step_of_run_one {s t : State} (h : Sys2Proof.core.run 1 s = .next t) : step s = .next t := by
  simp only [Host.Core.run] at h
  split at h
  · cases h; assumption
  · cases h
  · cases h

/-- A whole serial frame, then a CTRL write that selects PG. -/
def serialFrameThenPg : List Event :=
  cmd .start :: bbsFeed (List.replicate 33 0#8) (List.replicate 33 0) ++ [wr 0x000#12 0x2#32]

/-- A TXDATA write while the byte before it is in flight. -/
def txdataWhileBusy : List Event :=
  [cmd .start, wr 0x014#12 0#32, wr 0x014#12 0#32]

/-- A whole pulse frame, then a CTRL write that selects BBS. -/
def pulseFrameThenBbs : List Event :=
  [wr 0x000#12 0x2#32, cmd .build, cmd .start] ++ List.replicate 25 (.engine 0) ++ [wr 0x000#12 0x0#32]

theorem serialFrame_within_bound :
    reaches serialFrameThenPg 67 (fun t => decide (t.txIndex.toNat ≤ frameLen t.backend)) = true := by decide

theorem serialFrameThenPg_exceeds_bound :
    reaches serialFrameThenPg 68 (fun t => decide (frameLen t.backend < t.txIndex.toNat)) = true := by decide

theorem txdataWhileBusy_loses_count : reaches txdataWhileBusy 3 (fun t => decide
    (t.backend = .bbs ∧ t.frameBackend = .bbs ∧ t.chan = .faulted ∧ t.faultCause = .busyViolation ∧
      t.bytesAccepted ≠ t.txIndex.toNat + t.busy.toNat)) = true := by decide

theorem pulseFrameThenBbs_has_no_count : reaches pulseFrameThenBbs 29 (fun t => decide
    (t.backend = .bbs ∧ t.frameBackend = .pg ∧ t.chan = .idle ∧
      t.bytesAccepted ≠ t.txIndex.toNat + t.busy.toNat)) = true := by decide

/-- Settles O51 by its three schedules; the states before and after the CTRL write of the first meet the invariant, as
every state reached from reset does. -/
theorem txIndexBoundByBackendIsNotKept : Obligations.TxIndexBoundByBackendIsNotKept := by
  obtain ⟨s, hs, hbound⟩ := reaches_iff.mp serialFrame_within_bound
  obtain ⟨t, ht, hexceeds⟩ := reaches_iff.mp serialFrameThenPg_exceeds_bound
  obtain ⟨u, hu, hfaulted⟩ := reaches_iff.mp txdataWhileBusy_loses_count
  obtain ⟨v, hv, hidle⟩ := reaches_iff.mp pulseFrameThenBbs_has_no_count
  have hstep : step s = .next t := step_of_run_one ((run_append 67 1 hs).symm.trans ht)
  have hreset := invariantHoldsAtReset.withSchedule serialFrameThenPg
  exact ⟨⟨s, t, hreset.of_run hs, of_decide_eq_true hbound, hstep, hreset.of_run ht, of_decide_eq_true hexceeds⟩,
    ⟨_, _, t, ht, of_decide_eq_true hexceeds⟩, ⟨_, _, u, hu, of_decide_eq_true hfaulted⟩,
    ⟨_, _, v, hv, of_decide_eq_true hidle⟩⟩

end Sys2Proof.Machine
end

section
/-! PROOF. ENC_OUT (10_state.md R38) and the values after reset (R50). -/

namespace Sys2Proof.Machine

@[simp] theorem State.startFrame_encOut (s : State) : s.startFrame.encOut = s.encOut := by
  rw [startFrame_eq]

@[simp] theorem State.storeBytes_encOut (s : State) (a : Nat) (bytes : List Byte) :
    (s.storeBytes a bytes).encOut = s.encOut := by
  rw [storeBytes_eq]

@[simp] theorem State.endUnit_encOut (s : State) : s.endUnit.encOut = s.encOut := by
  rcases endUnit_cases s with ⟨_, h⟩ | ⟨_, h⟩ <;> simp [h]

theorem engineStep_encOut {g : Nat} {s t : State} (h : engineStep g s = .next t) : t.encOut = s.encOut := by
  obtain ⟨_, h⟩ := engineStep_next h
  rcases h with ⟨_, _, rfl⟩ | ⟨_, _, _, rfl⟩ | ⟨_, _, _, rfl⟩ | ⟨_, _, d, _, rfl⟩ <;> simp

/-- An instruction keeps ENC_OUT or is an encoder command. -/
theorem exec_encOut {i : Instr} {s t : State} (hi : ∀ w, i ≠ .wrCmd w) (h : exec i s = .next t) :
    t.encOut = s.encOut ∨ (∃ b, i = .encBit b) ∨ (∃ p, i = .encPair p) ∨ ∃ x, i = .encByte x := by
  rcases exec_next hi h with rfl | ⟨v, rfl⟩ | ⟨_, rfl⟩ | ⟨v, rfl, henc⟩ | ⟨d, _, rfl⟩ | ⟨d, nb, _, _, rfl⟩ | ⟨d, _, rfl⟩ |
    ⟨d, _, rfl⟩ | ⟨d, _, _, rfl⟩ | ⟨d, _, _, _, _, rfl⟩ | ⟨d, _, _, _, _, rfl⟩ | ⟨_, _, _, rfl⟩ |
    ⟨_, _, _, _, rfl⟩ | ⟨_, _, _, _, rfl⟩ | ⟨_, _, _, rfl⟩
  on_goal 4 => exact .inr henc
  all_goals left; simp

/-- Settles O46, by the event of the step. -/
theorem onlyEncoderCommandsWriteEncOut : Obligations.OnlyEncoderCommandsWriteEncOut := by
  intro s t e rest hs h hne
  rcases step_all hs h with ⟨i, hp, hi, h⟩ | ⟨acc, r, _, _, rfl⟩ | ⟨a, v, _, rfl⟩ | ⟨a, v, _, rfl⟩ |
    ⟨a, w, _, _, rfl⟩ | ⟨d, n, _, _, rfl⟩ | ⟨g, _, h⟩ | ⟨c, _, _, _, rfl⟩ | ⟨he, _⟩ | ⟨m, _, rfl⟩
  · rw [hp]
    right
    simpa using (exec_encOut hi h).resolve_left hne
  · simp at hne
  · simp at hne
  · simp at hne
  · simp at hne
  · simp at hne
  · exact absurd (engineStep_encOut h) hne
  · simp at hne
  · exact .inl he
  · simp at hne

/-- Settles O33: a reset of the running machine puts back every field of R50's table from the state after power-on. -/
theorem resetValues : Obligations.ResetValues := by
  intro s
  refine ⟨s.blockReset, rfl, rfl, ?_⟩
  rintro t (rfl | rfl) <;> simp [State.blockReset, State.reset, State.irq]

end Sys2Proof.Machine
end

section
/-! PROOF. System memory (20_memory.md): the accesses that R61 and R62 refuse, what BUILD and the host's own loads and
stores do to its bytes (R63, R70, R71), and that nothing else writes it (R60). -/

namespace Sys2Proof.Machine

/-! ### Refused accesses -/

/-- R61: the width is looked at first. -/
theorem fetchAccess_subword {acc : BusAccess} (hw : acc.width ≠ .w32) : fetchAccess acc = .error .subwordAccess := by
  simp [fetchAccess, hw]

theorem accessWord_low_bits (write : Bool) (offset : BitVec 12) :
    (accessWord write offset).extractLsb' 0 2 = offset.extractLsb' 0 2 :=
  BitVec.extractLsb'_append_eq_of_add_le (by decide)

theorem low_bits_ne_zero {offset : BitVec 12} (h : offset.toNat % 4 ≠ 0) : offset.extractLsb' 0 2 ≠ 0#2 := by
  intro hz
  have hz := congrArg BitVec.toNat hz
  simp only [BitVec.extractLsb'_toNat, Nat.shiftRight_zero, BitVec.toNat_ofNat] at hz
  omega

/-- R62: a word access at an offset that is not a multiple of 4 has no instruction. -/
theorem fetchAccess_misaligned {acc : BusAccess} (hw : acc.width = .w32) (ho : acc.offset.toNat % 4 ≠ 0) :
    fetchAccess acc = .error .misalignedAccess := by
  have hd : decodeAccess (accessWord acc.write acc.offset) acc.data = .error .misalignedAccess := by
    rw [decodeAccess, accessWord_low_bits, if_pos (low_bits_ne_zero ho)]
  simp [fetchAccess, hw, hd]

/-- R14: an access without an instruction marks the run, and the step after the mark is the refusal. -/
theorem step_refused_access {s : State} {acc : BusAccess} {rest : List Event} {r : Refusal}
    (hr : s.refusedMark = none) (hs : s.schedule = .bus acc :: rest) (hf : fetchAccess acc = .error r) :
    step s = .next (s.markRefused r) ∧ step (s.markRefused r) = .refused r := by
  refine ⟨?_, rfl⟩
  rw [step_cons hr hs, runEvent, hf]

/-- Settles O7, by the check that fails: the width's, and the offset's where the width is right. -/
theorem illFormedAccessRefusesTheRun : Obligations.IllFormedAccessRefusesTheRun := by
  intro s acc rest hr hs
  exact ⟨fun hw => step_refused_access hr hs (fetchAccess_subword hw),
    fun hw ho => step_refused_access hr hs (fetchAccess_misaligned hw ho)⟩

/-! ### BUILD's buffer -/

/-- R156, R157: an accepted BUILD in DMA mode stores the frame and loads it. -/
theorem exec_build_dma {s : State} (hc : s.chan = .idle) (hb : s.backend = .dma)
    (ha : dmaAdmits s.dmaMap s.dmaAddr.toNat Config.serFrameLen = true) :
    exec .build s = .next s.storeFrame.loadFrame := by
  show execBuild s = _
  simp [execBuild, hc, hb, ha]

/-- Settles O25: the 33 bytes are written from DMA_ADDR, and a read sees them there and nowhere else. -/
theorem buildWritesExactlyTheBuffer : Obligations.BuildWritesExactlyTheBuffer := by
  intro s hc hb ha
  refine ⟨_, exec_build_dma hc hb ha, fun j hj => ?_, fun a hout => ?_⟩
  · rw [State.loadFrame_memory, State.storeFrame_memory]
    exact readCell_memWriteBytes_inside _ _ _ _ hj
  · rw [State.loadFrame_memory, State.storeFrame_memory]
    exact readCell_memWriteBytes_outside _ _ hout

/-! ### The host's loads and stores -/

@[simp] theorem State.storeBytes_memory (s : State) (a : Nat) (bytes : List Byte) :
    (s.storeBytes a bytes).memory = memWriteBytes s.memory a bytes := by
  rw [storeBytes_eq]

theorem memRead_of_readCell {m : Memory} {a : Nat} {v : Byte} (h : readCell m a = some v) : memRead m a = v := by
  simp [memRead, h]

/-- R63: lane j of a word is its bits 8j + 7 to 8j. -/
theorem wordBytes_lane (w : Word) {j : Nat} (hj : j < 4) : (wordBytes w)[j]? = some (w.extractLsb' (8 * j) 8) := by
  interval_cases j <;> rfl

/-- R63: the four lanes of a word, put together, are the word. -/
theorem wordOfBytes_lanes (w : Word) :
    wordOfBytes (w.extractLsb' 0 8) (w.extractLsb' 8 8) (w.extractLsb' 16 8) (w.extractLsb' 24 8) = w := by
  calc
    _ = w.extractLsb' 16 16 ++ w.extractLsb' 8 8 ++ w.extractLsb' 0 8 := by
      rw [wordOfBytes, BitVec.extractLsb'_append_extractLsb'_eq_extractLsb' (by decide : 24 = 16 + 8)]
    _ = w.extractLsb' 8 24 ++ w.extractLsb' 0 8 := by
      rw [BitVec.extractLsb'_append_extractLsb'_eq_extractLsb' (by decide : 16 = 8 + 8)]
    _ = w.extractLsb' 0 32 := BitVec.extractLsb'_append_extractLsb'_eq_extractLsb' (by decide)
    _ = w := BitVec.extractLsb'_eq_self

theorem readCell_memWriteBytes_lane (m : Memory) (a : Nat) (w : Word) {j : Nat} (hj : j < 4) :
    readCell (memWriteBytes m a (wordBytes w)) (a + j) = some (w.extractLsb' (8 * j) 8) := by
  rw [readCell_memWriteBytes_inside _ _ _ _ hj, wordBytes_lane w hj]

theorem inMemory_iff (a n : Nat) : inMemory a n = true ↔ a + n ≤ 2 ^ 32 :=
  decide_eq_true_iff

theorem hostStoreWord_inside {addr : Word} (h : addr.toNat + 4 ≤ 2 ^ 32) (w : Word) (s : State) :
    hostStoreWord addr w s = .next (s.storeBytes addr.toNat (wordBytes w)) := by
  rw [hostStoreWord, if_pos ((inMemory_iff _ _).mpr h)]

/-- R63: a word load answers the word whose lanes stand at the four bytes. -/
theorem hostLoadWord_of_lanes {addr w : Word} {s : State} (h : addr.toNat + 4 ≤ 2 ^ 32)
    (hl : ∀ j, j < 4 → readCell s.memory (addr.toNat + j) = some (w.extractLsb' (8 * j) 8)) :
    hostLoadWord addr s = .next (s.answer w) := by
  have hm (j : Nat) (hj : j < 4) : memRead s.memory (addr.toNat + j) = w.extractLsb' (8 * j) 8 :=
    memRead_of_readCell (hl j hj)
  have h0 : memRead s.memory addr.toNat = w.extractLsb' 0 8 := hm 0 (by decide)
  rw [hostLoadWord, if_pos ((inMemory_iff _ _).mpr h), h0, hm 1 (by decide), hm 2 (by decide), hm 3 (by decide),
    wordOfBytes_lanes]

theorem hostLoadByte_of_readCell {addr : Word} {v : Byte} {s : State} (h : readCell s.memory addr.toNat = some v) :
    hostLoadByte addr s = .next (s.answer (0#24 ++ v)) := by
  rw [hostLoadByte, memRead_of_readCell h, BitVec.zeroExtend_eq_setWidth, BitVec.setWidth_eq_append (by decide)]
  rfl

/-- Settles O36: a word store's lanes are read back byte by byte, and a word load puts them together. -/
theorem hostWordLanesLittleEndian : Obligations.HostWordLanesLittleEndian := by
  refine ⟨fun s addr w h => ?_, fun s addr v h => hostLoadByte_of_readCell h, fun s addr w h => ?_⟩
  · have hl (j : Nat) (hj : j < 4) : readCell (s.storeBytes addr.toNat (wordBytes w)).memory (addr.toNat + j) =
        some (w.extractLsb' (8 * j) 8) := by
      rw [State.storeBytes_memory]; exact readCell_memWriteBytes_lane _ _ w hj
    refine ⟨_, hostStoreWord_inside h w s, hl, fun a hout => ?_, hostLoadWord_of_lanes h hl⟩
    rw [State.storeBytes_memory]; exact readCell_memWriteBytes_outside _ _ hout
  · have hm : ¬inMemory addr.toNat 4 = true := by rw [inMemory_iff]; omega
    exact ⟨if_neg hm, if_neg hm⟩

/-! ### What writes memory -/

@[simp] theorem State.startFrame_memory (s : State) : s.startFrame.memory = s.memory := by
  rw [startFrame_eq]

@[simp] theorem State.endUnit_memory (s : State) : s.endUnit.memory = s.memory := by
  rcases endUnit_cases s with ⟨_, h⟩ | ⟨_, h⟩ <;> simp [h]

/-- R341: a reset leaves system memory alone. -/
@[simp] theorem State.blockReset_memory (s : State) : s.blockReset.memory = s.memory := rfl

/-- A read that sees a write of bytes lies inside them. -/
theorem covered_of_readCell_ne {bytes : List Byte} {m : Memory} {a b : Nat}
    (h : readCell (memWriteBytes m a bytes) b ≠ readCell m b) : a ≤ b ∧ b < a + bytes.length := by
  by_contra hout
  exact h (readCell_memWriteBytes_outside _ _ (by omega))

/-- 45_channel_control.md R298: the engines only read memory. -/
theorem engineStep_memory {g : Nat} {s t : State} (h : engineStep g s = .next t) : t.memory = s.memory := by
  obtain ⟨_, h⟩ := engineStep_next h
  rcases h with ⟨_, _, rfl⟩ | ⟨_, _, _, rfl⟩ | ⟨_, _, _, rfl⟩ | ⟨_, _, d, _, rfl⟩ <;> simp

/-- An instruction keeps memory, or is a BUILD accepted in DMA mode. -/
theorem exec_keeps_memory_or_builds {i : Instr} {s t : State} (hi : ∀ w, i ≠ .wrCmd w) (h : exec i s = .next t) :
    t.memory = s.memory ∨
    (i = .build ∧ s.chan = .idle ∧ s.backend = .dma ∧
      dmaAdmits s.dmaMap s.dmaAddr.toNat Config.serFrameLen = true ∧ t.memory = s.storeFrame.memory) := by
  rcases exec_next hi h with rfl | ⟨v, rfl⟩ | ⟨_, rfl⟩ | ⟨v, rfl, _⟩ | ⟨d, _, rfl⟩ | ⟨d, nb, _, _, rfl⟩ | ⟨d, _, rfl⟩ |
    ⟨d, _, rfl⟩ | ⟨d, _, _, rfl⟩ | ⟨d, _, _, _, _, rfl⟩ | ⟨d, _, _, _, _, rfl⟩ | ⟨_, _, _, rfl⟩ |
    ⟨hbuild, hc, hb, ha, rfl⟩ | ⟨_, _, _, _, rfl⟩ | ⟨_, _, _, rfl⟩
  -- the one case that writes memory: BUILD accepted in DMA mode
  on_goal 13 => exact .inr ⟨hbuild, hc, hb, ha, State.loadFrame_memory _⟩
  all_goals left; simp

/-- Settles O49, by the event of the step: the two host stores and BUILD write memory, each inside its own bytes. -/
theorem onlyStoresAndBuildWriteMemory : Obligations.OnlyStoresAndBuildWriteMemory := by
  intro s t e rest a hs h hne
  rcases step_all hs h with ⟨i, hp, hi, h⟩ | ⟨acc, r, _, _, rfl⟩ | ⟨addr, v, _, rfl⟩ | ⟨addr, v, he, rfl⟩ |
    ⟨addr, w, he, _, rfl⟩ | ⟨d, n, _, _, rfl⟩ | ⟨g, _, h⟩ | ⟨c, _, _, _, rfl⟩ | ⟨_, rfl⟩ | ⟨m, _, rfl⟩
  · rcases exec_keeps_memory_or_builds hi h with hm | ⟨rfl, hc, hb, ha, hm⟩
    · simp [hm] at hne
    · rw [hm, State.storeFrame_memory] at hne
      exact .inr (.inr ⟨hp, hc, hb, ha, covered_of_readCell_ne hne⟩)
  · simp at hne
  · simp at hne
  · rw [State.storeBytes_memory] at hne
    have hcov := covered_of_readCell_ne hne
    rw [List.length_singleton] at hcov
    exact .inl ⟨addr, v, he, by omega⟩
  · rw [State.storeBytes_memory] at hne
    exact .inr (.inl ⟨addr, w, he, covered_of_readCell_ne hne⟩)
  · simp at hne
  · simp [engineStep_memory h] at hne
  · simp at hne
  · simp at hne
  · simp at hne

end Sys2Proof.Machine
end

section
/-! PROOF. Decoding and encoding (30_encoding.md R98 to R104): access words by the three kinds of offset (a register, a
FRAME window word, a reserved one), command words by OP and the operand of their format. -/

namespace Sys2Proof

/-! ### The parts of an access word (R103) -/

theorem bitVec_append_inj {m n : Nat} {x x' : BitVec m} {y y' : BitVec n} : x ++ y = x' ++ y' ↔ x = x' ∧ y = y' := by
  constructor
  · intro h
    have hx := congrArg (BitVec.extractLsb' n m) h
    have hy := congrArg (BitVec.extractLsb' 0 n) h
    rw [BitVec.extractLsb'_append_eq_left, BitVec.extractLsb'_append_eq_left] at hx
    rw [BitVec.extractLsb'_append_eq_right, BitVec.extractLsb'_append_eq_right] at hy
    exact ⟨hx, hy⟩
  · rintro ⟨rfl, rfl⟩
    rfl

theorem getLsbD_of_extractLsb' {n i : Nat} {x : BitVec n} {b : Bool} (h : x.extractLsb' i 1 = BitVec.ofBool b) :
    x.getLsbD i = b := by
  rw [BitVec.getLsbD_eq_extractLsb', h]
  cases b <;> rfl

theorem accessWord_offset (write : Bool) (offset : BitVec 12) : (accessWord write offset).extractLsb' 0 12 = offset :=
  BitVec.extractLsb'_append_eq_right

theorem accessWord_offset_bits (write : Bool) (offset : BitVec 12) {start len : Nat} (h : start + len ≤ 12) :
    (accessWord write offset).extractLsb' start len = offset.extractLsb' start len :=
  BitVec.extractLsb'_append_eq_of_add_le h

theorem accessWord_write_bit (write : Bool) (offset : BitVec 12) :
    (accessWord write offset).extractLsb' 12 1 = BitVec.ofBool write :=
  BitVec.extractLsb'_append_eq_left

theorem accessWord_write (write : Bool) (offset : BitVec 12) : (accessWord write offset).getLsbD 12 = write :=
  getLsbD_of_extractLsb' (accessWord_write_bit write offset)

/-- The bits above a FRAME window's word number: W and the window's page of 128 bytes. -/
theorem accessWord_page (write : Bool) (offset : BitVec 12) :
    (accessWord write offset).extractLsb' 7 6 = BitVec.ofBool write ++ offset.extractLsb' 7 5 := by
  rw [← accessWord_write_bit write offset, ← accessWord_offset_bits write offset (by decide : 7 + 5 ≤ 12)]
  exact (BitVec.extractLsb'_append_extractLsb'_eq_extractLsb' (start₂ := 12) (start₁ := 7) (len₁ := 5) rfl).symm

theorem exists_accessWord (a : BitVec 13) : ∃ write offset, a = accessWord write offset := by
  have hbit : BitVec.ofBool (a.getLsbD 12) = a.extractLsb' 12 1 := by
    rw [BitVec.getLsbD_eq_extractLsb']
    generalize a.extractLsb' 12 1 = b
    revert b; decide
  refine ⟨a.getLsbD 12, a.extractLsb' 0 12, ?_⟩
  rw [accessWord, hbit]
  exact (BitVec.extractLsb'_append_extractLsb' (w := 1) (len := 12)).symm

/-- 10_state.md R23: the registers end at 0x01B. -/
theorem accessWord_ne_register {offset : BitVec 12} (h : 0x01C ≤ offset.toNat) (write : Bool) {a : BitVec 13}
    (ha : (a.extractLsb' 0 12).toNat < 0x01C) : accessWord write offset ≠ a := by
  rintro rfl
  rw [accessWord_offset] at ha
  omega

/-! ### The three kinds of aligned offset (10_state.md R23, R42) -/

theorem offsetAligned_iff (offset : BitVec 12) : offsetAligned offset = true ↔ offset.extractLsb' 0 2 = 0#2 := by
  simp [offsetAligned, ← BitVec.toNat_inj]

theorem offsetUnused_iff (offset : BitVec 12) :
    offsetUnused offset = true ↔ 0x01C ≤ offset.toNat ∧ offset.extractLsb' 7 5 ≠ 2#5 := by
  simp only [offsetUnused, Bool.or_eq_true, Bool.and_eq_true, decide_eq_true_eq, ne_eq, ← BitVec.toNat_inj,
    BitVec.extractLsb'_toNat, BitVec.toNat_ofNat]
  omega

theorem frameOffset_of_page {offset : BitVec 12} (ha : offset.extractLsb' 0 2 = 0#2) (hp : offset.extractLsb' 7 5 = 2#5) :
    frameOffset (offset.extractLsb' 2 5) = offset := by
  calc
    _ = offset.extractLsb' 7 5 ++ offset.extractLsb' 2 5 ++ offset.extractLsb' 0 2 := by rw [hp, ha]; rfl
    _ = offset.extractLsb' 2 10 ++ offset.extractLsb' 0 2 := by
      rw [BitVec.extractLsb'_append_extractLsb'_eq_extractLsb' (rfl : 7 = 2 + 5)]
    _ = offset := BitVec.extractLsb'_append_extractLsb'

/-- An aligned offset is that of one of the 7 registers, that of a FRAME window word, or reserved. -/
theorem offset_cases {offset : BitVec 12} (ha : offset.extractLsb' 0 2 = 0#2) :
    (∃ m < 7, offset = BitVec.ofNat 12 (4 * m)) ∨ (∃ k, offset = frameOffset k) ∨ offsetUnused offset = true := by
  by_cases hr : 0x01C ≤ offset.toNat
  · by_cases hp : offset.extractLsb' 7 5 = 2#5
    · exact .inr (.inl ⟨_, (frameOffset_of_page ha hp).symm⟩)
    · exact .inr (.inr ((offsetUnused_iff offset).mpr ⟨hr, hp⟩))
  · have h4 : offset.toNat % 4 = 0 := by simpa [offsetAligned] using (offsetAligned_iff offset).mpr ha
    refine .inl ⟨offset.toNat / 4, by omega, BitVec.eq_of_toNat_eq ?_⟩
    rw [BitVec.toNat_ofNat]
    omega

/-! ### What an access word decodes to (R104) -/

theorem decodeAccess_misaligned {a : BitVec 13} (h : a.extractLsb' 0 2 ≠ 0#2) (data : Word) :
    decodeAccess a data = .error .misalignedAccess :=
  if_pos h

/-- Past the 14 rows of the registers, the page of the offset and W decide the row. -/
theorem decodeAccess_past_registers {offset : BitVec 12} (ha : offset.extractLsb' 0 2 = 0#2) (h : 0x01C ≤ offset.toNat)
    (write : Bool) (data : Word) : decodeAccess (accessWord write offset) data = .ok (
      if offset.extractLsb' 7 5 = 2#5 then
        if write then .wrFrame (offset.extractLsb' 2 5) data else .rdFrame (offset.extractLsb' 2 5)
      else if write then .wrRsvd offset data else .rdRsvd offset) := by
  have hread : BitVec.ofBool write ++ offset.extractLsb' 7 5 = 0x02#6 ↔ _ := bitVec_append_inj (x' := 0#1) (y' := 2#5)
  have hwrite : BitVec.ofBool write ++ offset.extractLsb' 7 5 = 0x22#6 ↔ _ := bitVec_append_inj (x' := 1#1) (y' := 2#5)
  simp (disch := decide) only [decodeAccess, ha, accessWord_ne_register h, ne_eq, not_true_eq_false, if_false,
    accessWord_page, hread, hwrite, accessWord_offset_bits, accessWord_write, BitVec.extractLsb'_eq_self]
  by_cases hp : offset.extractLsb' 7 5 = 2#5 <;> cases write <;> simp [hp]

theorem decodeAccess_frame (write : Bool) (k : BitVec 5) (data : Word) :
    decodeAccess (accessWord write (frameOffset k)) data = .ok (if write then .wrFrame k data else .rdFrame k) := by
  have hk : ∀ k : BitVec 5, (frameOffset k).extractLsb' 0 2 = 0#2 ∧ 0x01C ≤ (frameOffset k).toNat ∧
      (frameOffset k).extractLsb' 7 5 = 2#5 ∧ (frameOffset k).extractLsb' 2 5 = k := by decide
  obtain ⟨ha, hr, hp, hi⟩ := hk k
  rw [decodeAccess_past_registers ha hr, if_pos hp, hi]

theorem decodeAccess_reserved {offset : BitVec 12} (ha : offsetAligned offset = true) (hu : offsetUnused offset = true)
    (write : Bool) (data : Word) :
    decodeAccess (accessWord write offset) data = .ok (if write then .wrRsvd offset data else .rdRsvd offset) := by
  obtain ⟨hr, hp⟩ := (offsetUnused_iff offset).mp hu
  rw [decodeAccess_past_registers ((offsetAligned_iff offset).mp ha) hr, if_neg hp]

/-! ### What a command word decodes to (R98 to R100) -/

/-- The command of an OP, with the operand fields of the three formats that have one. -/
def commandOf (op : BitVec 4) (bit : Bool) (pair : BitVec 2) (byte : Byte) : Command :=
  if op = 0x0#4 then .nop
  else if op = 0x1#4 then .encBit (bitValue bit)
  else if op = 0x2#4 then .encPair pair
  else if op = 0x3#4 then .encByte byte
  else if op = 0x4#4 then .build
  else if op = 0x5#4 then .start
  else if op.getLsbD 3 then .rsvd8F (op.extractLsb' 0 3)
  else .rsvd67 (op.extractLsb' 0 1)

theorem decodeCommand_eq_commandOf (w : Word) : decodeCommand w =
    commandOf (w.extractLsb' 0 4) (w.getLsbD 4) (w.extractLsb' 4 2) (w.extractLsb' 8 8) := by
  have h3 : (w.extractLsb' 0 4).getLsbD 3 = w.getLsbD 3 := by simp
  rw [commandOf, h3, BitVec.extractLsb'_extractLsb'_of_le (by decide), BitVec.extractLsb'_extractLsb'_of_le (by decide)]
  rfl

theorem decodeCommand_encodeCommand (c : Command) : decodeCommand (encodeCommand c) = c := by
  cases c with
  | nop => rfl
  | encBit b => cases b <;> rfl
  | encPair p => revert p; decide
  | encByte x =>
    have hop : (encodeCommand (.encByte x)).extractLsb' 0 4 = 3#4 :=
      BitVec.extractLsb'_append_eq_of_add_le (by decide)
    have hbyte : (encodeCommand (.encByte x)).extractLsb' 8 8 = x :=
      (BitVec.extractLsb'_append_eq_of_le (by decide)).trans BitVec.extractLsb'_append_eq_right
    rw [decodeCommand_eq_commandOf, hop, hbyte]
    rfl
  | build => rfl
  | start => rfl
  | rsvd67 op => revert op; decide
  | rsvd8F op => revert op; decide

theorem decode_encodeCommand (c : Command) : decode (.cmd (encodeCommand c)) = .ok c.toInstr :=
  congrArg (fun d : Command => Except.ok d.toInstr) (decodeCommand_encodeCommand c)

/-- Settles O1, by the row of the instruction: the 14 rows of the registers compute. -/
theorem decodeOfEncodeIsIdentity : Obligations.DecodeOfEncodeIsIdentity := by
  intro i hwf
  cases i with
  | rdFrame k => exact decodeAccess_frame false k 0#32
  | wrFrame k data => exact decodeAccess_frame true k data
  | rdRsvd offset =>
    obtain ⟨ha, hu⟩ := Bool.and_eq_true_iff.mp hwf
    exact decodeAccess_reserved ha hu false 0#32
  | wrRsvd offset data =>
    obtain ⟨ha, hu⟩ := Bool.and_eq_true_iff.mp hwf
    exact decodeAccess_reserved ha hu true data
  | nop => exact decode_encodeCommand .nop
  | encBit b => exact decode_encodeCommand (.encBit b)
  | encPair p => exact decode_encodeCommand (.encPair p)
  | encByte x => exact decode_encodeCommand (.encByte x)
  | build => exact decode_encodeCommand .build
  | start => exact decode_encodeCommand .start
  | rsvd67 op => exact decode_encodeCommand (.rsvd67 op)
  | rsvd8F op => exact decode_encodeCommand (.rsvd8F op)
  | _ => rfl

/-! ### The first matching BUS row (R104 step 2) -/

theorem busRow_of_frame (write : Bool) (k : BitVec 5) :
    busRows.findIdx? (fun r => accessWord write (frameOffset k) &&& r.1 == r.2) = some (if write then 15 else 14) := by
  revert k; cases write <;> decide

/-- The mask of a FRAME row keeps W and the page. -/
theorem page_of_frameRow {a m : BitVec 13} (h : a &&& 0x1F83#13 = m) : a.extractLsb' 7 6 = m.extractLsb' 7 6 := by
  rw [← h, BitVec.extractLsb'_and]
  exact BitVec.and_allOnes.symm

theorem reserved_ne_frameRow {offset : BitVec 12} (hp : offset.extractLsb' 7 5 ≠ 2#5) (write v : Bool) :
    accessWord write offset &&& 0x1F83#13 ≠ BitVec.ofBool v ++ 0x100#12 := by
  intro h
  have h : BitVec.ofBool write ++ offset.extractLsb' 7 5 = BitVec.ofBool v ++ 2#5 := by
    rw [← accessWord_page, page_of_frameRow h]
    exact accessWord_page v 0x100#12
  exact hp (bitVec_append_inj.mp h).2

theorem busRow_of_reserved {offset : BitVec 12} (ha : offsetAligned offset = true) (hu : offsetUnused offset = true)
    (write : Bool) :
    busRows.findIdx? (fun r => accessWord write offset &&& r.1 == r.2) = some (if write then 17 else 16) := by
  obtain ⟨hr, hp⟩ := (offsetUnused_iff offset).mp hu
  have hexact : accessWord write offset &&& 0x1FFF#13 = accessWord write offset := BitVec.and_allOnes
  have hread : accessWord write offset &&& 0x1F83#13 ≠ 0x0100#13 := reserved_ne_frameRow hp write false
  have hwrite : accessWord write offset &&& 0x1F83#13 ≠ 0x1100#13 := reserved_ne_frameRow hp write true
  have hlow := Laws.EncodesItsRow.access_low_bits write ha
  cases write <;>
    simp (disch := decide) [busRows, List.findIdx?_cons, hexact, accessWord_ne_register hr, hread, hwrite, hlow]

/-- R104 steps 1 and 2 for an aligned access: the instruction, its word and its row. -/
theorem decodeAccess_aligned {offset : BitVec 12} (ha : offset.extractLsb' 0 2 = 0#2) (write : Bool) (data : Word) :
    ∃ i, decodeAccess (accessWord write offset) data = .ok i ∧ i.wf = true ∧
      encode i = .bus (accessWord write offset) (if write then data else 0#32) ∧
      busRows.findIdx? (fun r => accessWord write offset &&& r.1 == r.2) = some i.row := by
  rcases offset_cases ha with ⟨m, hm, rfl⟩ | ⟨k, rfl⟩ | hu
  · clear ha
    interval_cases m <;> cases write <;> exact ⟨_, rfl, rfl, rfl, rfl⟩
  · refine ⟨_, decodeAccess_frame write k data, ?_⟩
    rw [busRow_of_frame]
    cases write <;> exact ⟨rfl, rfl, rfl⟩
  · have ha := (offsetAligned_iff offset).mpr ha
    refine ⟨_, decodeAccess_reserved ha hu write data, ?_⟩
    rw [busRow_of_reserved ha hu]
    cases write <;> exact ⟨Bool.and_eq_true_iff.mpr ⟨ha, hu⟩, rfl, rfl⟩

/-- Settles O2: an access that decodes is aligned, and the instruction of an aligned access has it as its word. -/
theorem encodeOfDecodedAccessRestoresIt : Obligations.EncodeOfDecodedAccessRestoresIt := by
  intro a data i h
  have ha : a.extractLsb' 0 2 = 0#2 := by
    by_contra hne
    rw [decodeAccess_misaligned hne] at h
    cases h
  obtain ⟨write, offset, rfl⟩ := exists_accessWord a
  rw [Machine.accessWord_low_bits] at ha
  obtain ⟨j, hj, hwf, henc, -⟩ := decodeAccess_aligned ha write data
  obtain rfl : j = i := Except.ok.inj (hj.symm.trans h)
  rw [accessWord_write]
  exact ⟨hwf, henc⟩

/-! ### The one matching command row (R104 step 3) -/

/-- The rows of the commands as masks and matches of OP, the only bits they look at (R99). -/
def opRows : List (BitVec 4 × BitVec 4) :=
  [(0xF, 0x0), (0xF, 0x1), (0xF, 0x2), (0xF, 0x3), (0xF, 0x4), (0xF, 0x5), (0xE, 0x6), (0x8, 0x8)]

theorem commandRows_eq_opRows : commandRows = opRows.map fun r => (0#28 ++ r.1, 0#28 ++ r.2) := rfl

theorem commandRow_matches (w : Word) (r : BitVec 4 × BitVec 4) :
    (w &&& (0#28 ++ r.1) == 0#28 ++ r.2) = (w.extractLsb' 0 4 &&& r.1 == r.2) := by
  have h : w &&& (0#28 ++ r.1) = 0#28 ++ (w.extractLsb' 0 4 &&& r.1) := by
    conv_lhs => rw [← BitVec.extractLsb'_append_extractLsb' (len := 4) (w := 28) (x := w)]
    rw [BitVec.and_append, BitVec.and_zero]
  rw [h, Bool.eq_iff_iff, beq_iff_eq, beq_iff_eq, BitVec.append_right_inj]

/-- The operands do not enter the row. -/
theorem commandOf_row (op : BitVec 4) (bit : Bool) (pair : BitVec 2) (byte : Byte) :
    (commandOf op bit pair byte).toInstr.row = (commandOf op false 0#2 0#8).toInstr.row := by
  unfold commandOf
  split_ifs <;> rfl

theorem commandRow_of_word (w : Word) :
    ∃ k, commandRows.findIdx? (fun r => w &&& r.1 == r.2) = some k ∧ (decodeCommand w).toInstr.row = 18 + k := by
  rw [commandRows_eq_opRows, List.findIdx?_map, decodeCommand_eq_commandOf, commandOf_row]
  simp only [Function.comp_def, commandRow_matches]
  generalize w.extractLsb' 0 4 = op
  refine ⟨(commandOf op false 0#2 0#8).toInstr.row - 18, ?_⟩
  revert op; decide

theorem commandRow_unique (w : Word) : (commandRows.filter fun r => w &&& r.1 == r.2).length = 1 := by
  rw [commandRows_eq_opRows, List.filter_map, List.length_map]
  simp only [Function.comp_def, commandRow_matches]
  generalize w.extractLsb' 0 4 = op
  revert op; decide

theorem decodePerformed_wrCmd {a : BitVec 13} {data w : Word} (h : decodeAccess a data = .ok (.wrCmd w)) :
    decodePerformed a data = .ok (decodeCommand w).toInstr := by
  rw [decodePerformed, h]

/-- Settles O3: the three steps of R104. -/
theorem decodeTakesFirstMatchingRow : Obligations.DecodeTakesFirstMatchingRow := by
  intro a data w
  refine ⟨fun h => decodeAccess_misaligned h data, fun ha => ?_, decodePerformed_wrCmd, commandRow_of_word w,
    commandRow_unique w⟩
  obtain ⟨write, offset, rfl⟩ := exists_accessWord a
  rw [Machine.accessWord_low_bits] at ha
  obtain ⟨i, hi, -, -, hrow⟩ := decodeAccess_aligned ha write data
  exact ⟨i, hi, hrow⟩

/-- Settles O5: each word computes. -/
theorem sampleWordsDecode : Obligations.SampleWordsDecode :=
  ⟨rfl, rfl, rfl, rfl, rfl, rfl, rfl, rfl, rfl, rfl, rfl, rfl, rfl⟩

/-- Settles O4: words that agree on OP and on the operand of its format name the same command. -/
theorem unusedCommandBitsIgnored : Obligations.UnusedCommandBitsIgnored := by
  intro w w' s hop hbit hpair hbyte
  have h : decodeCommand w = decodeCommand w' := by
    rw [decodeCommand_eq_commandOf, decodeCommand_eq_commandOf, ← hop]
    unfold commandOf
    split_ifs with _ h1 h2 h3
    · rfl
    · rw [hbit h1]
    · rw [hpair h2]
    · rw [hbyte h3]
    all_goals rfl
  rw [Machine.exec_wrCmd, Machine.exec_wrCmd, h]

end Sys2Proof
end

section
/-! PROOF. The data encodings: a descriptor as a register shows it (30_encoding.md R92), and the waveform of an encoded
byte (R94, R95, 40_bit_encoder.md R125). -/

namespace Sys2Proof.Machine

/-! ### Packed descriptors -/

theorem pack_eq_append (d : Descriptor) :
    pack d = BitVec.ofBool d.level2 ++ d.length2 ++ BitVec.ofBool d.level1 ++ d.length1 := by
  have hrev (x y z u : Word) : x ||| y ||| z ||| u = u ||| z ||| y ||| x := by ac_rfl
  calc
    pack d = (BitVec.ofBool d.level2).setWidth 32 <<< 31 ||| d.length2.setWidth 32 <<< 16 |||
        (BitVec.ofBool d.level1).setWidth 32 <<< 15 ||| d.length1.setWidth 32 := hrev _ _ _ _
    _ = (BitVec.ofBool d.level2 ++ d.length2 ++ BitVec.ofBool d.level1 ++ d.length1).setWidth 32 := by
      rw [BitVec.setWidth_append_append_append_eq_shiftLeft_setWidth_or]
    _ = _ := BitVec.setWidth_eq _

theorem pack_length1 (d : Descriptor) : (pack d).extractLsb' 0 15 = d.length1 := by
  rw [pack_eq_append]
  exact BitVec.extractLsb'_append_eq_right

theorem pack_level1 (d : Descriptor) : (pack d).getLsbD 15 = d.level1 := by
  apply getLsbD_of_extractLsb'
  rw [pack_eq_append, BitVec.extractLsb'_append_eq_of_le (by decide)]
  exact BitVec.extractLsb'_append_eq_right

theorem pack_length2 (d : Descriptor) : (pack d).extractLsb' 16 15 = d.length2 := by
  rw [pack_eq_append, BitVec.extractLsb'_append_eq_of_le (by decide), BitVec.extractLsb'_append_eq_of_le (by decide)]
  exact BitVec.extractLsb'_append_eq_right

theorem pack_level2 (d : Descriptor) : (pack d).getLsbD 31 = d.level2 := by
  apply getLsbD_of_extractLsb'
  rw [pack_eq_append, BitVec.extractLsb'_append_eq_of_le (by decide), BitVec.extractLsb'_append_eq_of_le (by decide)]
  exact BitVec.extractLsb'_append_eq_left

theorem unpack_pack (d : Descriptor) : unpack (pack d) = d := by
  rw [unpack, pack_length1, pack_level1, pack_length2, pack_level2]

theorem encodeBitPulse_lengths (v : BitValue) :
    (encodeBitPulse v).length1.toNat ≤ Config.tReset ∧ (encodeBitPulse v).length2.toNat ≤ Config.tReset := by
  cases v <;> decide

/-- R92: the reset unit's low phase is the longest of a frame. -/
theorem buildFramePG_lengths {c : Color} {d : Descriptor} (h : d ∈ buildFramePG c) :
    d.length1.toNat ≤ Config.tReset ∧ d.length2.toNat ≤ Config.tReset := by
  rcases List.mem_append.mp h with h | h
  · obtain ⟨v, -, rfl⟩ := List.mem_map.mp h
    exact encodeBitPulse_lengths v
  · rw [List.mem_singleton.mp h]
    decide

/-- Settles O12, field by field, and by the two kinds of descriptor in a frame. -/
theorem packPlacesDescriptorFields : Obligations.PackPlacesDescriptorFields :=
  ⟨fun d => ⟨pack_length1 d, pack_level1 d, pack_length2 d, pack_level2 d, unpack_pack d⟩,
    fun _ _ h => buildFramePG_lengths h⟩

/-! ### The waveform of a serial byte -/

/-- R94: the nibble of one bit on the wire. -/
def bitWave (b : Bool) : List TraceElem :=
  if b then [.seg .high 75, .seg .low 25] else [.seg .high 25, .seg .low 75]

/-- The trace begins with H, if with anything: no low phase before it merges into it. -/
def RisesOrEnds (t : List TraceElem) : Prop :=
  t = [] ∨ ∃ n u, t = .seg .high n :: u

theorem bitWave_rises (b : Bool) (t : List TraceElem) : RisesOrEnds (bitWave b ++ t) := by
  cases b <;> exact .inr ⟨_, _, rfl⟩

/-- R93, R94: a pattern byte puts the nibbles of its window's two bits, the upper one first, before a normal trace. -/
theorem norm_patternByte (p : BitVec 2) {t : List TraceElem} (ht : RisesOrEnds t) :
    (serBits (patternByte p)).foldr normCons t = bitWave (p.getLsbD 1) ++ (bitWave (p.getLsbD 0) ++ t) := by
  have hp : ∀ p : BitVec 2, p = 0#2 ∨ p = 1#2 ∨ p = 2#2 ∨ p = 3#2 := by decide
  rcases ht with rfl | ⟨n, u, rfl⟩ <;> rcases hp p with rfl | rfl | rfl | rfl <;> rfl

/-- R124: the windows that the shifts bring to the top. -/
theorem encodeByteSerial_eq (b : Byte) : encodeByteSerial b =
    [patternByte (b.extractLsb' 6 2), patternByte (b.extractLsb' 4 2), patternByte (b.extractLsb' 2 2),
      patternByte (b.extractLsb' 0 2)] := by
  have hshift {n : Nat} (hn : n ≤ 6) : (b <<< n).extractLsb' 6 2 = b.extractLsb' (6 - n) 2 := by
    ext i hi
    have hlt : 6 + i < 8 := by omega
    have hge : ¬6 + i < n := by omega
    have hsub : 6 + i - n = 6 - n + i := by omega
    simp [hlt, hge, hsub, BitVec.getLsbD_eq_getElem, show 6 - n + i < 8 by omega]
  calc
    _ = [patternByte (b.extractLsb' 6 2), patternByte ((b <<< 2).extractLsb' 6 2),
        patternByte ((b <<< 2 <<< 2).extractLsb' 6 2), patternByte ((b <<< 2 <<< 2 <<< 2).extractLsb' 6 2)] := rfl
    _ = _ := by
      rw [← BitVec.shiftLeft_add, ← BitVec.shiftLeft_add, hshift (by decide), hshift (by decide), hshift (by decide)]

/-- Settles O53, pattern by pattern from the last: each one leaves the wire at L and the next one starts with H. -/
theorem serialWaveformOfAByte : Obligations.SerialWaveformOfAByte := by
  intro b
  rw [encodeByteSerial_eq]
  simp only [norm, List.flatMap_cons, List.flatMap_nil, List.foldr_append, List.foldr_nil]
  rw [norm_patternByte _ (.inl rfl), norm_patternByte _ (bitWave_rises _ _), norm_patternByte _ (bitWave_rises _ _),
    norm_patternByte _ (bitWave_rises _ _)]
  simp only [BitVec.getLsbD_extractLsb', List.append_nil]
  rfl

end Sys2Proof.Machine
end

section
/-! PROOF. The bit encoder (40_bit_encoder.md): the words and the effects of ENC_BIT, ENC_PAIR and ENC_BYTE (R129 to
R131), and the decoders as the inverses of the encoders (R127, R128). -/

namespace Sys2Proof.Machine

/-! ### The commands -/

theorem decode_cmd_of_op {w : Word} {op : BitVec 4} (h : w.extractLsb' 0 4 = op) :
    decode (.cmd w) = .ok (commandOf op (w.getLsbD 4) (w.extractLsb' 4 2) (w.extractLsb' 8 8)).toInstr := by
  rw [decode, decodeCommand_eq_commandOf, h]

theorem exec_encBit (b : BitValue) (s : State) :
    exec (.encBit b) s = .next { s with encOut := pack (encodeBitPulse b) } := rfl

theorem exec_encPair (p : BitVec 2) (s : State) :
    exec (.encPair p) s = .next { s with encOut := (patternByte p).zeroExtend 32 } := rfl

theorem exec_encByte (b : Byte) (s : State) :
    exec (.encByte b) s = .next { s with encOut := packPatterns (encodeByteSerial b) } := rfl

theorem pack_encodeBitPulse_one : pack (encodeBitPulse .one) = 0x00208044#32 := by decide

theorem pack_encodeBitPulse_zero : pack (encodeBitPulse .zero) = 0x00448020#32 := by decide

/-- Settles O21: bit 4 is the operand of OP = 1, and the two descriptors of R121 are packed. -/
theorem encodeBitCommand : Obligations.EncodeBitCommand := by
  refine ⟨fun w h => decode_cmd_of_op h, fun s b => exec_encBit b s, fun s => ⟨?_, ?_⟩⟩
  · rw [exec_encBit, pack_encodeBitPulse_one]
  · rw [exec_encBit, pack_encodeBitPulse_zero]

/-- Settles O22: bits 5:4 are the operand of OP = 2, and each window's pattern is that of R93. -/
theorem encodePairCommand : Obligations.EncodePairCommand :=
  ⟨fun _ h => decode_cmd_of_op h,
    fun s => ⟨exec_encPair 0#2 s, exec_encPair 1#2 s, exec_encPair 2#2 s, exec_encPair 3#2 s⟩⟩

/-- R63: the lanes of a word put together from four bytes are those bytes. -/
theorem wordBytes_wordOfBytes (q0 q1 q2 q3 : Byte) : wordBytes (wordOfBytes q0 q1 q2 q3) = [q0, q1, q2, q3] := by
  have h0 : (wordOfBytes q0 q1 q2 q3).extractLsb' 0 8 = q0 := BitVec.extractLsb'_append_eq_right
  have h1 : (wordOfBytes q0 q1 q2 q3).extractLsb' 8 8 = q1 :=
    (BitVec.extractLsb'_append_eq_of_le (by decide)).trans BitVec.extractLsb'_append_eq_right
  have h2 : (wordOfBytes q0 q1 q2 q3).extractLsb' 16 8 = q2 :=
    (BitVec.extractLsb'_append_eq_of_le (by decide)).trans <|
      (BitVec.extractLsb'_append_eq_of_le (by decide)).trans BitVec.extractLsb'_append_eq_right
  have h3 : (wordOfBytes q0 q1 q2 q3).extractLsb' 24 8 = q3 :=
    (BitVec.extractLsb'_append_eq_of_le (by decide)).trans <|
      (BitVec.extractLsb'_append_eq_of_le (by decide)).trans BitVec.extractLsb'_append_eq_left
  rw [wordBytes, h0, h1, h2, h3]

theorem encodeByteSerial_getElem? (b : Byte) {k : Nat} (hk : k < 4) :
    (encodeByteSerial b)[k]? = some (patternByte (b.extractLsb' (6 - 2 * k) 2)) := by
  rw [encodeByteSerial_eq]
  interval_cases k <;> rfl

theorem wordBytes_packPatterns_encodeByteSerial (b : Byte) :
    wordBytes (packPatterns (encodeByteSerial b)) = encodeByteSerial b := by
  rw [encodeByteSerial_eq]
  exact wordBytes_wordOfBytes _ _ _ _

/-- Settles O23: byte lane k of ENC_OUT is the k-th byte that `encodeByteSerial` emits. -/
theorem encodeByteLanes : Obligations.EncodeByteLanes := by
  refine ⟨fun w h => decode_cmd_of_op h, fun s b => ⟨_, exec_encByte b s, fun k hk => Option.some.inj ?_⟩⟩
  rw [← wordBytes_lane _ hk, wordBytes_packPatterns_encodeByteSerial, encodeByteSerial_getElem? b hk]

/-! ### The decoders -/

theorem decodePattern_patternByte (p : BitVec 2) : decodePattern (patternByte p) = some p := by
  revert p; decide

theorem decodePattern_eq_some_iff (v : Byte) (p : BitVec 2) : decodePattern v = some p ↔ v = patternByte p := by
  constructor
  · intro h
    unfold decodePattern at h
    split_ifs at h with h0 h1 h2 h3 <;> obtain rfl := Option.some.inj h
    · exact h0
    · exact h1
    · exact h2
    · exact h3
  · rintro rfl
    exact decodePattern_patternByte p

/-- R127: exactly the lists of four pattern bytes decode. -/
theorem decodeByteSerial_eq_some_iff (l : List Byte) (b : Byte) : decodeByteSerial l = some b ↔
    ∃ p0 p1 p2 p3, l = [patternByte p0, patternByte p1, patternByte p2, patternByte p3] ∧ b = p0 ++ p1 ++ p2 ++ p3 := by
  constructor
  · intro h
    unfold decodeByteSerial at h
    split at h
    · split at h
      next h0 h1 h2 h3 =>
        rw [decodePattern_eq_some_iff] at h0 h1 h2 h3
        exact ⟨_, _, _, _, by rw [h0, h1, h2, h3], (Option.some.inj h).symm⟩
      next => cases h
    · cases h
  · rintro ⟨p0, p1, p2, p3, rfl, rfl⟩
    simp only [decodeByteSerial, decodePattern_patternByte]

/-- R124: a byte is its four windows, the first one emitted at the top. -/
theorem windows_append (b : Byte) :
    b.extractLsb' 6 2 ++ b.extractLsb' 4 2 ++ b.extractLsb' 2 2 ++ b.extractLsb' 0 2 = b := by
  calc
    _ = b.extractLsb' 4 4 ++ b.extractLsb' 2 2 ++ b.extractLsb' 0 2 := by
      rw [BitVec.extractLsb'_append_extractLsb'_eq_extractLsb' (by decide : 6 = 4 + 2)]
    _ = b.extractLsb' 2 6 ++ b.extractLsb' 0 2 := by
      rw [BitVec.extractLsb'_append_extractLsb'_eq_extractLsb' (by decide : 4 = 2 + 2)]
    _ = b := BitVec.extractLsb'_append_extractLsb'

theorem encodeByteSerial_append (p0 p1 p2 p3 : BitVec 2) :
    encodeByteSerial (p0 ++ p1 ++ p2 ++ p3) = [patternByte p0, patternByte p1, patternByte p2, patternByte p3] := by
  obtain ⟨h012, h3⟩ := bitVec_append_inj.mp (windows_append (p0 ++ p1 ++ p2 ++ p3))
  obtain ⟨h01, h2⟩ := bitVec_append_inj.mp h012
  obtain ⟨h0, h1⟩ := bitVec_append_inj.mp h01
  rw [encodeByteSerial_eq, h0, h1, h2, h3]

theorem decodeByteSerial_encodeByteSerial (b : Byte) : decodeByteSerial (encodeByteSerial b) = some b :=
  (decodeByteSerial_eq_some_iff _ b).mpr ⟨_, _, _, _, encodeByteSerial_eq b, (windows_append b).symm⟩

theorem eq_encodeByteSerial_of_decodeByteSerial {l : List Byte} {b : Byte} (h : decodeByteSerial l = some b) :
    l = encodeByteSerial b := by
  obtain ⟨p0, p1, p2, p3, rfl, rfl⟩ := (decodeByteSerial_eq_some_iff l b).mp h
  exact (encodeByteSerial_append p0 p1 p2 p3).symm

theorem decodeDescriptor_eq_some_iff (d : Descriptor) (v : BitValue) :
    decodeDescriptor d = some v ↔ d = encodeBitPulse v := by
  constructor
  · intro h
    unfold decodeDescriptor at h
    split_ifs at h with h1 h0 <;> obtain rfl := Option.some.inj h
    · exact h1
    · exact h0
  · rintro rfl
    cases v <;> rfl

theorem decodeDescriptor_resetDescriptor : decodeDescriptor resetDescriptor = none := by decide

/-- Settles O52, decoder by decoder: of the four-byte lists and the descriptors, exactly the encodings decode. -/
theorem decodersInvertTheEncoders : Obligations.DecodersInvertTheEncoders :=
  ⟨decodePattern_eq_some_iff, decodeByteSerial_encodeByteSerial, fun _ _ => eq_encodeByteSerial_of_decodeByteSerial,
    decodeDescriptor_eq_some_iff, decodeDescriptor_resetDescriptor⟩

end Sys2Proof.Machine
end

section
/-! PROOF. Built frames: the order of their bits (41_frame_builder.md R151), the colour read back from them (R161), and
the shape and the waveform that all of them share (R162, 70_reset_and_hazards.md R355). -/

namespace Sys2Proof.Machine

/-! ### The order of the bits -/

theorem channelBits_length (v : Byte) : (channelBits v).length = 8 := rfl

theorem channelBits_getElem? (v : Byte) {j : Nat} (hj : j < 8) :
    (channelBits v)[j]? = some (bitValue (v.getLsbD (7 - j))) := by
  interval_cases j <;> rfl

theorem bitSeq_length (c : Color) : (bitSeq c).length = 24 := rfl

/-- Place `j` of one of the three channels, among the 24 bits. -/
theorem bitSeq_getElem?_channel (c : Color) {q j : Nat} (hj : j < 8) :
    (bitSeq c)[8 * q + j]? = ((channels c)[q]?).bind fun v => (channelBits v)[j]? := by
  rw [bitSeq]
  generalize channels c = l
  induction l generalizing q with
  | nil => simp
  | cons v l ih =>
    rw [List.flatMap_cons]
    cases q with
    | zero =>
      rw [Nat.mul_zero, Nat.zero_add, List.getElem?_append_left (by rwa [channelBits_length]), List.getElem?_cons_zero,
        Option.bind_some]
    | succ q =>
      rw [List.getElem?_append_right (by rw [channelBits_length]; omega), channelBits_length,
        show 8 * (q + 1) + j - 8 = 8 * q + j by omega, ih, List.getElem?_cons_succ]

theorem channels_getElem? (c : Color) {q : Nat} (hq : q < 3) :
    (channels c)[q]? = some (if q = 0 then c.g else if q = 1 then c.r else c.b) := by
  interval_cases q <;> rfl

/-- Settles O54: place k is place k mod 8 of channel k / 8. -/
theorem frameBitOrder : Obligations.FrameBitOrder := by
  refine fun c => ⟨bitSeq_length c, fun k hk => ?_⟩
  have hj : k % 8 < 8 := Nat.mod_lt k (by decide)
  calc
    (bitSeq c)[k]? = (bitSeq c)[8 * (k / 8) + k % 8]? := by rw [Nat.div_add_mod]
    _ = _ := by
      rw [bitSeq_getElem?_channel c hj, channels_getElem? c (by omega), Option.bind_some, channelBits_getElem? _ hj]

/-! ### The colour read back -/

theorem buildFramePG_take_24 (c : Color) : (buildFramePG c).take 24 = (bitSeq c).map encodeBitPulse :=
  List.take_left' (by rw [List.length_map, bitSeq_length])

theorem decodeDescriptor_encodeBitPulse (v : BitValue) : decodeDescriptor (encodeBitPulse v) = some v :=
  (decodeDescriptor_eq_some_iff _ v).mpr rfl

/-- Settles O55, by the inverse of each encoder on the part of the frame that it made. -/
theorem frameRoundTrip : Obligations.FrameRoundTrip := by
  refine fun c => ⟨?_, decodeByteSerial_encodeByteSerial c.g, decodeByteSerial_encodeByteSerial c.r,
    decodeByteSerial_encodeByteSerial c.b⟩
  rw [buildFramePG_take_24, List.map_map]
  exact List.map_congr_left fun v _ => decodeDescriptor_encodeBitPulse v

/-! ### The reset low -/

/-- The trace ends in at least `n` ticks of L. -/
def EndsLow (n : Nat) (t : List TraceElem) : Prop :=
  ∃ xs m, t = xs ++ [.seg .low m] ∧ n ≤ m

/-- What is put before a trace leaves its end, or lengthens it. -/
theorem EndsLow.normCons {n : Nat} {t : List TraceElem} (h : EndsLow n t) (e : TraceElem) :
    EndsLow n (normCons e t) := by
  obtain ⟨xs, m, rfl, hm⟩ := h
  cases e with
  | abort => exact ⟨.abort :: xs, m, rfl, hm⟩
  | seg l k =>
    cases k with
    | zero => exact ⟨xs, m, rfl, hm⟩
    | succ k =>
      rcases xs with _ | ⟨⟨l', j⟩ | _, xs⟩
      · by_cases hl : l = .low
        · subst hl; exact ⟨[], k + 1 + m, rfl, by omega⟩
        · exact ⟨[.seg l (k + 1)], m, if_neg hl, hm⟩
      · by_cases hl : l = l'
        · exact ⟨.seg l (k + 1 + j) :: xs, m, if_pos hl, hm⟩
        · exact ⟨.seg l (k + 1) :: .seg l' j :: xs, m, if_neg hl, hm⟩
      · exact ⟨.seg l (k + 1) :: .abort :: xs, m, rfl, hm⟩

theorem EndsLow.norm_append {n : Nat} {u : List TraceElem} (h : EndsLow n (norm u)) (t : List TraceElem) :
    EndsLow n (norm (t ++ u)) := by
  induction t with
  | nil => exact h
  | cons e t ih => exact ih.normCons e

/-- Segments of one level merge into one. -/
theorem norm_replicate_seg (l : Level) (m k : Nat) :
    norm (List.replicate (k + 1) (.seg l (m + 1))) = [.seg l ((k + 1) * (m + 1))] := by
  induction k with
  | zero => simp [norm, normCons]
  | succ k ih =>
    rw [List.replicate_succ, norm, List.foldr_cons]
    rw [norm] at ih
    rw [ih, normCons, if_pos rfl, Nat.succ_mul (k + 1), Nat.add_comm]

theorem serBits_zero : serBits 0#8 = List.replicate 8 (.seg .low 25) := rfl

/-- R155: 21 zero bytes of 8 bits at 25 ticks. -/
theorem norm_filler : norm ((List.replicate Config.serFillerLen 0#8).flatMap serBits) = [.seg .low 4200] := by
  rw [List.flatMap_replicate, serBits_zero, List.flatten_replicate_replicate]
  exact norm_replicate_seg .low 24 167

theorem buildFramePG_endsLow (c : Color) : EndsLow 4000 (norm ((buildFramePG c).flatMap pulseSegments)) := by
  have hreset : EndsLow 4000 (norm (pulseSegments resetDescriptor)) := ⟨[], 4000, by decide, le_rfl⟩
  rw [buildFramePG, List.flatMap_append, List.flatMap_singleton]
  exact hreset.norm_append _

theorem buildFrameSerial_endsLow (c : Color) : EndsLow 4200 (norm ((buildFrameSerial c).flatMap serBits)) := by
  have hfiller : EndsLow 4200 _ := ⟨[], 4200, norm_filler, le_rfl⟩
  rw [buildFrameSerial, List.flatMap_append]
  exact hfiller.norm_append _

/-! ### Durations -/

theorem traceTicks_append (t u : List TraceElem) : traceTicks (t ++ u) = traceTicks t + traceTicks u := by
  induction t with
  | nil => exact (Nat.zero_add _).symm
  | cons e t ih =>
    cases e with
    | seg l n => rw [List.cons_append, traceTicks, traceTicks, ih, Nat.add_assoc]
    | abort => exact ih

/-- Units of one length each. -/
theorem traceTicks_flatMap {α : Type} {f : α → List TraceElem} {n : Nat} {l : List α}
    (h : ∀ x ∈ l, traceTicks (f x) = n) : traceTicks (l.flatMap f) = l.length * n := by
  induction l with
  | nil => simp [traceTicks]
  | cons x l ih =>
    rw [List.forall_mem_cons] at h
    rw [List.flatMap_cons, traceTicks_append, h.1, ih h.2, List.length_cons, Nat.succ_mul, Nat.add_comm]

theorem traceTicks_encodeBitPulse (v : BitValue) : traceTicks (pulseSegments (encodeBitPulse v)) = 100 := by
  cases v <;> rfl

theorem traceTicks_serBits (v : Byte) : traceTicks (serBits v) = 200 := rfl

/-- R355: 24 bits of 100 ticks and the reset of 4000. -/
theorem traceTicks_buildFramePG (c : Color) : traceTicks ((buildFramePG c).flatMap pulseSegments) = 6400 := by
  have hbits : traceTicks (((bitSeq c).map encodeBitPulse).flatMap pulseSegments) = 24 * 100 := by
    rw [List.flatMap_map, traceTicks_flatMap fun v _ => traceTicks_encodeBitPulse v, bitSeq_length]
  rw [buildFramePG, List.flatMap_append, traceTicks_append, hbits]
  rfl

theorem traceTicks_buildFrameSerial (c : Color) : traceTicks ((buildFrameSerial c).flatMap serBits) = 6600 := by
  rw [traceTicks_flatMap fun v _ => traceTicks_serBits v, buildFrameSerial_length]

/-- Settles O56: the lengths compute, and each frame's waveform ends in that of its reset part. -/
theorem frameShapeAndResetLow : Obligations.FrameShapeAndResetLow := fun c =>
  ⟨buildFramePG_length c, buildFrameSerial_length c, bitSeq_length c, rfl, buildFramePG_endsLow c,
    buildFrameSerial_endsLow c, traceTicks_buildFramePG c, traceTicks_buildFrameSerial c⟩

end Sys2Proof.Machine
end

section
/-! PROOF. BUILD in each of its branches (41_frame_builder.md R156), what the FRAME window reads (R158), and what clears
FRAME_VALID (R160). -/

namespace Sys2Proof.Machine

/-! ### BUILD -/

theorem exec_build_rejected {s : State} (hc : s.chan ≠ .idle) : exec .build s = .next s.reject := if_pos hc

theorem exec_build_internal {s : State} (hc : s.chan = .idle) (hb : s.backend ≠ .dma) :
    exec .build s = .next s.loadFrame := by
  show execBuild s = _
  cases h : s.backend <;> simp_all [execBuild]

theorem exec_build_aborted {s : State} (hc : s.chan = .idle) (hb : s.backend = .dma)
    (ha : dmaAdmits s.dmaMap s.dmaAddr.toNat Config.serFrameLen = false) :
    exec .build s = .next (s.faultEntry .transferAbort) := by
  show execBuild s = _
  simp [execBuild, hc, hb, ha]

theorem loadFrame_eq {s : State} {k : Backend} (hb : s.backend = k) :
    s.loadFrame = { s with frame := buildFrame k (colorOf s.color), frameValid := true } := by
  subst hb; rfl

theorem storeFrame_loadFrame_eq {s : State} (hb : s.backend = .dma) : s.storeFrame.loadFrame = { s with
    memory := memWriteBytes s.memory s.dmaAddr.toNat (buildFrameSerial (colorOf s.color))
    frame := .ser (buildFrameSerial (colorOf s.color)), frameValid := true } := by
  simp [State.loadFrame, State.storeFrame, State.buildColor, buildFrame, hb]

/-- R306 outside Transmitting: no frame is cut, so no X is emitted. -/
theorem faultEntry_of_idle {s : State} (hc : s.chan = .idle) (cause : FaultCause) : s.faultEntry cause =
    { s with chan := .faulted, fault := true, faultCause := cause, busy := false, line := .low } := by
  simp [State.faultEntry, State.markAbort, hc]

/-- Settles O24, branch by branch. -/
theorem buildFrameCommand : Obligations.BuildFrameCommand := by
  refine ⟨fun w h => decode_cmd_of_op h, ?_⟩
  rintro s _ rfl
  refine ⟨exec_build_rejected, fun hc hb => ?_, fun hc hb => ?_, fun hc hb ha => ?_, fun hc hb ha => ?_⟩
  · rw [exec_build_internal hc (by simp [hb]), loadFrame_eq hb]; rfl
  · rw [exec_build_internal hc (by simp [hb]), loadFrame_eq hb]; rfl
  · exact (exec_build_dma hc hb ha).trans (congrArg _ (storeFrame_loadFrame_eq hb))
  · rw [exec_build_aborted hc hb ha, faultEntry_of_idle hc]

/-! ### The FRAME window -/

theorem frameOffset_eq_ofNat (k : BitVec 5) : BitVec.ofNat 12 (0x100 + 4 * k.toNat) = frameOffset k := by
  revert k; decide

theorem frameWord_pg {d : List Descriptor} {k : Nat} {x : Descriptor} (hk : k < 25) (hx : d[k]? = some x) :
    frameWord (.pg d) k = pack x := by
  simp [frameWord, Config.pgFrameLen, hk, hx]

theorem frameWord_pg_past (d : List Descriptor) {k : Nat} (hk : 25 ≤ k) : frameWord (.pg d) k = 0#32 :=
  if_neg (Nat.not_lt.mpr hk)

theorem frameWord_ser_lane (b : List Byte) (k : Nat) {j : Nat} (hj : j < 4) :
    (frameWord (.ser b) k).extractLsb' (8 * j) 8 = windowByte b (4 * k + j) := by
  by_cases hk : k < 9
  · apply Option.some.inj
    rw [← wordBytes_lane _ hj, frameWord, if_pos hk, wordBytes_wordOfBytes]
    interval_cases j <;> rfl
  · have hpast : ¬4 * k + j < Config.serFrameLen := by simp only [Config.serFrameLen]; omega
    rw [frameWord, if_neg hk, windowByte, if_neg hpast, BitVec.extractLsb'_zero]

/-- Settles O11, by the kind of frame. -/
theorem readFrameWindow : Obligations.ReadFrameWindow := by
  refine ⟨fun k => ?_, fun s k => ⟨s.windowWord k.toNat, rfl, fun hv => ?_,
    fun d hv hf => ⟨fun x hk hx => ?_, fun hk => ?_⟩, fun b hv hf j hj => ?_⟩⟩
  · rw [frameOffset_eq_ofNat]
    exact decodeAccess_frame false k 0#32
  · simp [State.windowWord, hv]
  · rw [State.windowWord, if_pos hv, hf, frameWord_pg hk hx]
  · rw [State.windowWord, if_pos hv, hf, frameWord_pg_past d hk]
  · rw [State.windowWord, if_pos hv, hf, frameWord_ser_lane b _ hj]
    rfl

/-! ### FRAME_VALID -/

@[simp] theorem State.startFrame_frameValid (s : State) : s.startFrame.frameValid = s.frameValid := by
  rw [startFrame_eq]

@[simp] theorem State.storeBytes_frameValid (s : State) (a : Nat) (bytes : List Byte) :
    (s.storeBytes a bytes).frameValid = s.frameValid := by
  rw [storeBytes_eq]

@[simp] theorem State.endUnit_frameValid (s : State) : s.endUnit.frameValid = s.frameValid := by
  rcases endUnit_cases s with ⟨_, h⟩ | ⟨_, h⟩ <;> simp [h]

theorem engineStep_frameValid {g : Nat} {s t : State} (h : engineStep g s = .next t) : t.frameValid = s.frameValid := by
  obtain ⟨_, h⟩ := engineStep_next h
  rcases h with ⟨_, _, rfl⟩ | ⟨_, _, _, rfl⟩ | ⟨_, _, _, rfl⟩ | ⟨_, _, d, _, rfl⟩ <;> simp

/-- R272: a CTRL write keeps FRAME_VALID exactly if it keeps BACKEND. -/
theorem exec_wrCtrl_frameValid {data : Word} {s t : State} (h : exec (.wrCtrl data) s = .next t) :
    t.frameValid = (s.frameValid && decide (t.backend = s.backend)) := by
  have h : execWrCtrl data s = .next t := h
  unfold execWrCtrl at h
  split at h <;> cases h
  · rfl
  · simp

/-- R286: a DMA_ADDR write that is accepted in DMA mode clears FRAME_VALID. -/
theorem exec_wrDmaAddr_frameValid {data : Word} {s t : State} (h : exec (.wrDmaAddr data) s = .next t) :
    t.frameValid = (s.frameValid && !decide (s.backend = .dma ∧ s.chan ≠ .transmitting)) := by
  have h : execWrDmaAddr data s = .next t := h
  unfold execWrDmaAddr at h
  split at h <;> cases h <;> simp [*]

/-- Of the instructions, only these two writes can clear FRAME_VALID. -/
theorem exec_keeps_frameValid {i : Instr} {s t : State} (hi : ∀ w, i ≠ .wrCmd w) (hctrl : ∀ d, i ≠ .wrCtrl d)
    (haddr : ∀ d, i ≠ .wrDmaAddr d) (h : exec i s = .next t) (hv : s.frameValid = true) : t.frameValid = true := by
  rcases exec_next hi h with rfl | ⟨v, rfl⟩ | ⟨_, rfl⟩ | ⟨v, rfl, _⟩ | ⟨d, _, rfl⟩ | ⟨d, nb, hd, _, rfl⟩ | ⟨d, _, rfl⟩ |
    ⟨d, _, rfl⟩ | ⟨d, hd, _, rfl⟩ | ⟨d, _, _, _, _, rfl⟩ | ⟨d, _, _, _, _, rfl⟩ | ⟨_, _, _, rfl⟩ |
    ⟨_, _, _, _, rfl⟩ | ⟨_, _, _, _, rfl⟩ | ⟨_, _, _, rfl⟩
  -- the change of BACKEND (6th) and the accepted DMA_ADDR write (9th)
  on_goal 9 => exact absurd hd (haddr d)
  on_goal 6 => exact absurd hd (hctrl d)
  all_goals simp [hv]

/-- R160 for an instruction. -/
theorem exec_clears_frameValid_iff {i : Instr} {s t : State} (hi : ∀ w, i ≠ .wrCmd w) (h : exec i s = .next t)
    (hv : s.frameValid = true) : t.frameValid = false ↔
      (t.backend ≠ s.backend ∧ ∃ d, i = .wrCtrl d) ∨
      (s.backend = .dma ∧ s.chan ≠ .transmitting ∧ ∃ d, i = .wrDmaAddr d) := by
  by_cases hctrl : ∃ d, i = .wrCtrl d
  · obtain ⟨d, rfl⟩ := hctrl
    simp [exec_wrCtrl_frameValid h, hv]
  by_cases haddr : ∃ d, i = .wrDmaAddr d
  · obtain ⟨d, rfl⟩ := haddr
    simp [exec_wrDmaAddr_frameValid h, hv]
  have hkeeps := exec_keeps_frameValid hi (not_exists.mp hctrl) (not_exists.mp haddr) h hv
  simp [hkeeps, hctrl, haddr]

theorem performedBy_eq_none {e : Event} (h : ∀ acc, e ≠ .bus acc) : performedBy e = none := by
  cases e with
  | bus acc => exact absurd rfl (h acc)
  | _ => rfl

/-- Settles O45, by the event of the step: accesses by their instruction, and of the other events only reset. -/
theorem frameValidClearedExactly : Obligations.FrameValidClearedExactly := by
  intro s t e rest hs h hv
  rcases step_all hs h with ⟨i, hp, hi, h⟩ | ⟨acc, r, rfl, hp, rfl⟩ | ⟨a, v, rfl | rfl, rfl⟩ | ⟨a, v, rfl, rfl⟩ |
    ⟨a, w, rfl, _, rfl⟩ | ⟨d, n, rfl, _, rfl⟩ | ⟨g, rfl, h⟩ | ⟨c, rfl, _, _, rfl⟩ | ⟨rfl, rfl⟩ | ⟨m, rfl, rfl⟩
  · have hne : e ≠ .reset := by rintro rfl; cases hp
    simpa [hp, hne] using exec_clears_frameValid_iff hi h hv
  · simp [hv, hp]
  · simp [hv, performedBy]
  · simp [hv, performedBy]
  · simp [hv, performedBy]
  · simp [hv, performedBy]
  · simp [hv, performedBy]
  · simp [engineStep_frameValid h, hv, performedBy]
  · simp [hv, performedBy]
  · exact iff_of_true rfl (.inl rfl)
  · simp [hv, performedBy]

end Sys2Proof.Machine
end

section
/-! PROOF. A PG frame from BUILD to its end (41_frame_builder.md R156, 44_pulse_generator.md R240, R241, R243). -/

namespace Sys2Proof.Machine

/-- The step of a scheduled BUILD. -/
theorem step_build {s : State} {rest : List Event} (hr : s.refusedMark = none) (hs : s.schedule = cmd .build :: rest) :
    step s = exec .build (s.withSchedule rest) := by
  rw [step_cons hr hs]; rfl

/-- START in PG mode leaves BUSY as it is (R240). -/
theorem startFrame_pg {s : State} (hb : s.backend = .pg) : s.startFrame = s.openFrame := by
  rw [State.startFrame, hb]; rfl

/-- The step of a scheduled START that is accepted in PG mode. -/
theorem step_start_pg {s : State} {rest : List Event} (hr : s.refusedMark = none) (hc : s.chan = .idle)
    (hb : s.backend = .pg) (hv : s.frameValid = true) (hs : s.schedule = cmd .start :: rest) :
    step s = .next (s.withSchedule rest).openFrame :=
  (step_start hr hc (fun _ => hv) hs).trans (congrArg _ (startFrame_pg hb))

/-- The last unit of a frame is counted, and the frame completes. -/
theorem endUnit_last {s : State} (h : s.txIndex.toNat + 1 = frameLen s.backend) : s.endUnit = s.countUnit.complete := by
  have hlen : frameLen s.backend ≤ 33 := by cases s.backend <;> decide
  rcases endUnit_cases s with ⟨_, q⟩ | ⟨e, _⟩
  · exact q
  · rw [State.countUnit_txIndex, txIndex_succ (n := 33) (by omega) (by omega)] at e
    exact absurd h e

/-- The last unit of a PG frame: the reset descriptor, with which the frame completes. -/
theorem pg_last_unit {s : State} (c : Color) {g : Nat} {rest : List Event} (hr : s.refusedMark = none)
    (hc : s.chan = .transmitting) (hb : s.backend = .pg) (hf : s.frame = .pg (buildFramePG c)) (hx : s.txIndex = 24#6)
    (hs : s.schedule = .engine g :: rest) : step s = .next { s with
      schedule := rest, chan := .idle, busy := false, done := true, txIndex := 25#6, line := .low
      trace := s.trace ++ pulseSegments resetDescriptor } := by
  have hd : (s.withSchedule rest).nextDescriptor = some resetDescriptor := by
    simp only [State.nextDescriptor, State.withSchedule_frame, State.withSchedule_txIndex, hf, hx]
    rfl
  have hend : ((s.withSchedule rest).emitPulse resetDescriptor).endUnit = _ :=
    endUnit_last (by simp [hx, hb, frameLen, Config.pgFrameLen])
  rw [step_engine hr hs, engineStep, State.withSchedule_chan, if_pos hc, State.withSchedule_backend, hb, pgStep,
    State.withSchedule_txIndex, hx, if_pos (by decide), hd]
  dsimp only
  rw [hend]
  simp [State.complete, State.countUnit, State.emitPulse, State.emit, State.withSchedule, hx, hb, pulseSegments,
    resetDescriptor, levelOf]

/-- A PG frame in flight from its first unit to its end. -/
theorem pg_frame {s : State} (c : Color) {gaps : List Nat} {rest : List Event} (hr : s.refusedMark = none)
    (hc : s.chan = .transmitting) (hb : s.backend = .pg) (hf : s.frame = .pg (buildFramePG c)) (hx : s.txIndex = 0#6)
    (hg : gaps.length = 25) (hs : s.schedule = gaps.map .engine ++ rest) :
    Sys2Proof.core.run 25 s = .next { s with
      schedule := rest, chan := .idle, busy := false, done := true, txIndex := 25#6, line := .low
      trace := s.trace ++ (buildFramePG c).flatMap pulseSegments } := by
  obtain ⟨gaps, g, rfl⟩ : ∃ front g, gaps = front ++ [g] :=
    (List.eq_nil_or_concat' gaps).resolve_left (by rintro rfl; cases hg)
  have hg : gaps.length = 24 := by simpa using hg
  have hs : s.schedule = gaps.map .engine ++ (.engine g :: rest) := by simpa using hs
  have hunits := pg_units c (.engine g :: rest) gaps s hr hc hb hf (by simp [hx, hg]) hs
  rw [hg] at hunits
  rw [run_last 24 hunits (pg_last_unit c hr hc hb hf (by simp [hx]) rfl)]
  have hframe : (buildFramePG c).flatMap pulseSegments =
      ((buildFramePG c).take 24).flatMap pulseSegments ++ pulseSegments resetDescriptor := by
    rw [buildFramePG_take_24, buildFramePG, List.flatMap_append, List.flatMap_singleton]
  simp [hframe, hx]

/-- Settles O57: BUILD makes the frame, START opens it, and the 25 units follow. -/
theorem pulseFrameIsSentWhole : Obligations.PulseFrameIsSentWhole := by
  intro s gaps rest hr hc hb hg hs
  have hbuild := (step_build hr hs).trans (exec_build_internal hc (by simp [hb]))
  have hstart : step (s.withSchedule (cmd .start :: (gaps.map .engine ++ rest))).loadFrame = _ :=
    step_start_pg hr hc hb rfl rfl
  have hloaded : (s.withSchedule (cmd .start :: (gaps.map .engine ++ rest))).loadFrame.frame =
      .pg (buildFramePG (colorOf s.color)) := by
    rw [State.loadFrame_frame, State.withSchedule_backend, hb]; rfl
  rw [run_step 26 hbuild, run_step 25 hstart]
  refine Eq.trans (pg_frame (colorOf s.color) hr rfl hb hloaded rfl hg rfl) ?_
  simp [State.openFrame, State.loadFrame, State.withSchedule, State.buildColor, buildFrame, hb]

end Sys2Proof.Machine
end

section
/-! PROOF. The bit-banged transport (42_bitbanged_serial.md): a write of TXDATA (R184), the shifter's step (R180, R181),
and a frame of 33 bytes from START to its end (R185, R187). -/

namespace Sys2Proof.Machine

/-! ### A write of TXDATA -/

theorem execWrTxdata_rejected {s : State} (h : ¬(s.backend = .bbs ∧ s.chan = .transmitting)) (data : Word) :
    execWrTxdata data s = .next s.reject := if_pos h

theorem execWrTxdata_busy {s : State} (hb : s.backend = .bbs) (hc : s.chan = .transmitting) (hy : s.busy = true)
    (data : Word) : execWrTxdata data s = .next (s.faultEntry .busyViolation) := by
  rw [execWrTxdata, if_neg (not_not.2 ⟨hb, hc⟩), if_pos hy]

theorem execWrTxdata_latched {s : State} (hb : s.backend = .bbs) (hc : s.chan = .transmitting) (hy : s.busy = false)
    (data : Word) : execWrTxdata data s = .next (s.latchByte (txByte data)) := by
  rw [execWrTxdata, if_neg (not_not.2 ⟨hb, hc⟩), if_neg (by simp [hy])]

/-- Fault entry that cuts a frame in flight (60_exceptions.md R306). -/
theorem faultEntry_of_transmitting {s : State} (hc : s.chan = .transmitting) (cause : FaultCause) :
    s.faultEntry cause = { s with
      trace := s.trace ++ [.abort], chan := .faulted, fault := true, faultCause := cause, busy := false
      line := .low } := by
  simp [State.faultEntry, State.markAbort, hc]

/-- Settles O18, branch by branch. -/
theorem writeTxdata : Obligations.WriteTxdata := by
  intro s data
  refine ⟨rfl, fun h => execWrTxdata_rejected h data, fun hb hc hy => ?_,
    fun hb hc hy => execWrTxdata_latched hb hc hy data⟩
  rw [← faultEntry_of_transmitting hc]
  exact execWrTxdata_busy hb hc hy data

/-! ### The shifter's step -/

/-- The unit that a serial frame counts is its last exactly at TX_INDEX = 32. -/
theorem countUnit_ends_bbs_iff {s : State} (hb : s.backend = .bbs) :
    s.countUnit.txIndex.toNat = frameLen s.backend ↔ s.txIndex.toNat = 32 := by
  have hlt := s.txIndex.isLt
  rw [hb, State.countUnit_txIndex, BitVec.toNat_add]
  simp only [frameLen, Config.serFrameLen, BitVec.toNat_ofNat]
  omega

theorem engineStep_bbs_disabled {s : State} (hb : s.backend = .bbs) (h : ¬(s.chan = .transmitting ∧ s.busy = true))
    (gap : Nat) : engineStep gap s = .fault .engineNotEnabled := by
  rw [engineStep, hb]
  by_cases hc : s.chan = .transmitting
  · rw [if_pos hc]
    exact if_neg fun hy => h ⟨hc, hy⟩
  · exact if_neg hc

theorem engineStep_bbs {s : State} (hb : s.backend = .bbs) (hc : s.chan = .transmitting) (hy : s.busy = true)
    (gap : Nat) : engineStep gap s = .next (((s.emit .low gap).shiftOut s.shByte).setBusy false).endUnit := by
  rw [engineStep, if_pos hc, hb]
  exact if_pos hy

/-- Settles O27: the byte is shifted out after its gap, and the count of it ends the frame or does not. -/
theorem shifterStep : Obligations.ShifterStep := by
  intro s gap hb
  refine ⟨fun h => engineStep_bbs_disabled hb h gap, fun hc hy => ?_⟩
  have hlast := countUnit_ends_bbs_iff (s := ((s.emit .low gap).shiftOut s.shByte).setBusy false) hb
  have hbits : serBits s.shByte =
      [7, 6, 5, 4, 3, 2, 1, 0].map fun i => .seg (if s.shByte.getLsbD i then .high else .low) 25 := rfl
  rw [engineStep_bbs hb hc hy, ← hbits, State.endUnit]
  by_cases hx : s.txIndex.toNat = 32
  · rw [if_pos (hlast.2 hx), if_pos hx, if_pos hx]
    simp [State.complete, State.countUnit, State.setBusy, State.shiftOut, State.lineIdle, State.emit]
  · rw [if_neg (mt hlast.1 hx), if_neg hx, if_neg hx]
    simp [State.countUnit, State.setBusy, State.shiftOut, State.lineIdle, State.emit, hc]

/-! ### A whole frame -/

theorem bbsFeed_concat {bytes : List Byte} {gaps : List Nat} (h : gaps.length = bytes.length) (v : Byte) (g : Nat) :
    bbsFeed (bytes ++ [v]) (gaps ++ [g]) = bbsFeed bytes gaps ++ [wr 0x014#12 (v.zeroExtend 32), .engine g] := by
  induction bytes generalizing gaps with
  | nil => rw [List.length_eq_zero_iff.1 h]; rfl
  | cons w bytes ih =>
    obtain _ | ⟨g', gaps⟩ := gaps
    · cases h
    · exact congrArg (_ :: _ :: ·) (ih (Nat.succ.inj h))

/-- The last unit of a BBS frame: the byte is written and shifted out, and the frame completes. -/
theorem bbs_last_unit {s : State} {v : Byte} {g : Nat} {rest : List Event} (hr : s.refusedMark = none)
    (hc : s.chan = .transmitting) (hb : s.backend = .bbs) (hy : s.busy = false) (hx : s.txIndex = 32#6)
    (hs : s.schedule = wr 0x014#12 (v.zeroExtend 32) :: .engine g :: rest) :
    Sys2Proof.core.run 2 s = .next { s with
      schedule := rest, chan := .idle, busy := false, done := true, txIndex := 33#6, line := .low
      shByte := v, bytesAccepted := s.bytesAccepted + 1
      trace := s.trace ++ .seg .low g :: serBits v } := by
  have hwrite : step s = .next ((s.withSchedule (.engine g :: rest)).latchByte v) := by
    rw [step_txdata hr hs, execWrTxdata_latched (s := s.withSchedule (.engine g :: rest)) hb hc hy, txByte_zeroExtend]
  let t := (s.withSchedule (.engine g :: rest)).latchByte v
  have hshift : step t = _ := (step_engine (s := t) hr rfl).trans ((shifterStep (t.withSchedule rest) g hb).2 hc rfl)
  rw [run_step 1 hwrite, run_step 0 hshift]
  simp [Host.Core.run, t, State.latchByte, State.withSchedule, hx, serBits, levelOf, Config.tSer]

/-- A BBS frame in flight from its first byte to its end. -/
theorem bbs_frame {s : State} {bytes : List Byte} {gaps : List Nat} {rest : List Event} (hr : s.refusedMark = none)
    (hc : s.chan = .transmitting) (hb : s.backend = .bbs) (hy : s.busy = false) (hx : s.txIndex = 0#6)
    (hn : bytes.length = 33) (hg : gaps.length = 33) (hs : s.schedule = bbsFeed bytes gaps ++ rest) :
    Sys2Proof.core.run 66 s = .next { s with
      schedule := rest, chan := .idle, busy := false, done := true, txIndex := 33#6, line := .low
      shByte := bytes.getD 32 0#8, bytesAccepted := s.bytesAccepted + 33
      trace := s.trace ++ (List.zip bytes gaps).flatMap fun p => .seg .low p.2 :: serBits p.1 } := by
  obtain ⟨bytes, v, rfl⟩ := (List.eq_nil_or_concat' bytes).resolve_left (by rintro rfl; cases hn)
  obtain ⟨gaps, g, rfl⟩ := (List.eq_nil_or_concat' gaps).resolve_left (by rintro rfl; cases hg)
  have hn : bytes.length = 32 := by simpa using hn
  have hg : gaps.length = bytes.length := by simp at hg; omega
  rw [bbsFeed_concat hg, List.append_assoc] at hs
  have hunits := bbs_units _ bytes gaps s hr hc hb hy hg (by simp [hx, hn]) hs
  rw [hn] at hunits
  rw [run_append 64 2 hunits]
  refine Eq.trans (bbs_last_unit hr hc hb hy (by simp [hx]) rfl) ?_
  simp [List.zip_append hg.symm, hn]

/-- A segment of 0 ticks shows nothing (00_scope.md R15). -/
theorem norm_flatMap_gap_zero (f : Byte → List TraceElem) (bytes : List Byte) :
    norm (bytes.flatMap fun v => .seg .low 0 :: f v) = norm (bytes.flatMap f) := by
  induction bytes with
  | nil => rfl
  | cons v bytes ih =>
    simp only [norm, List.flatMap_cons, List.cons_append, List.foldr_cons, List.foldr_append, normCons] at ih ⊢
    rw [ih]

/-- Settles O59: START opens the frame, the 33 bytes follow, and gaps of 0 ticks show nothing. -/
theorem bitBangedFrameIsSentWhole : Obligations.BitBangedFrameIsSentWhole := by
  refine ⟨?_, fun c => norm_flatMap_gap_zero serBits (buildFrameSerial c)⟩
  intro s bytes gaps rest hr hc hb hn hg hs
  have hopen : (s.withSchedule (bbsFeed bytes gaps ++ rest)).startFrame =
      (s.withSchedule (bbsFeed bytes gaps ++ rest)).openFrame.setBusy false := by
    rw [State.startFrame, State.withSchedule_backend, hb]; rfl
  have hstart := step_start hr hc (fun h => absurd hb h) hs
  rw [hopen] at hstart
  rw [run_step 66 hstart]
  refine Eq.trans (bbs_frame hr rfl hb rfl rfl hn hg rfl) ?_
  simp [State.setBusy, State.openFrame, State.withSchedule, hb]

end Sys2Proof.Machine
end

section
/-! PROOF. When an engine step is enabled (42_bitbanged_serial.md R181, 43_dma_serial.md R212, 44_pulse_generator.md
R241), and that a frame in flight completes under a fair Engine (45_channel_control.md R283). -/

namespace Sys2Proof.Machine

/-! ### Enabling -/

/-- What the invariant leaves of an engine step's enabling: a frame in flight, and in BBS mode a byte to send. -/
def EngineReady (s : State) : Prop :=
  s.chan = .transmitting ∧ (s.backend = .bbs → s.busy = true)

theorem engineStep_dma_enabled {s : State} (hb : s.backend = .dma) (hc : s.chan = .transmitting)
    (hx : s.txIndex.toNat < Config.serFrameLen) (gap : Nat) : ∃ t, engineStep gap s = .next t := by
  have hstep : engineStep gap s = dmaStep s := by rw [engineStep, if_pos hc, hb]
  rw [hstep, dmaStep, if_pos hx]
  split
  · exact ⟨_, rfl⟩
  · exact ⟨_, rfl⟩

theorem engineStep_pg_enabled {s : State} (hb : s.backend = .pg) (hc : s.chan = .transmitting)
    (hx : s.txIndex.toNat < Config.pgFrameLen) {c : Color} (hf : s.frame = .pg (buildFramePG c)) (gap : Nat) :
    ∃ t, engineStep gap s = .next t := by
  have hstep : engineStep gap s = pgStep s := by rw [engineStep, if_pos hc, hb]
  have hd : s.nextDescriptor = some (buildFramePG c)[s.txIndex.toNat] := by
    rw [State.nextDescriptor, hf]
    exact List.getElem?_eq_getElem hx
  rw [hstep, pgStep, if_pos hx, hd]
  exact ⟨_, rfl⟩

/-- The invariant has a unit for the engine in every frame in flight: TX_INDEX inside the frame, and in PG mode a built
FRAME. -/
theorem WseInv.engineStep_enabled {s : State} (h : WseInv s) (hready : EngineReady s) (gap : Nat) :
    ∃ t, engineStep gap s = .next t := by
  obtain ⟨hc, hy⟩ := hready
  have hx := h.txInFrame hc
  cases hb : s.backend with
  | bbs => exact ⟨_, engineStep_bbs hb hc (hy hb) gap⟩
  | dma => exact engineStep_dma_enabled hb hc (by rwa [hb] at hx) gap
  | pg =>
    obtain ⟨c, hf⟩ := h.frameBuilt (h.frameNeeded hc (by simp [hb]))
    exact engineStep_pg_enabled hb hc (by rwa [hb] at hx) (hf.trans (by rw [hb]; rfl)) gap

theorem engineStep_disabled {s : State} (h : ¬EngineReady s) (gap : Nat) :
    engineStep gap s = .fault .engineNotEnabled := by
  by_cases hc : s.chan = .transmitting
  · obtain ⟨hb, hy⟩ := Classical.not_imp.1 fun hy => h ⟨hc, hy⟩
    exact engineStep_bbs_disabled hb (fun hcy => hy hcy.2) gap
  · exact if_neg hc

/-! ### An endless run that meets no fault and no reset -/

/-- The states `f` of an endless run on the schedule `σ`, each of the invariant, with no fault and no reset. -/
structure QuietRun (σ : Nat → Event) (f : Nat → State) : Prop where
  inv : ∀ n, WseInv (f n)
  next : ∀ n, step ((f n).withSchedule [σ n]) = .next (f (n + 1))
  noFault : ∀ n, (f n).fault = false
  noReset : ∀ n, σ n ≠ .reset

/-- The states of an undisturbed run that goes on, from a state of the invariant. -/
theorem exists_quietRun {σ : Nat → Event} {s : State} (hs : WseInv s) (hgo : GoesOn σ s) (hu : Undisturbed σ s) :
    ∃ f, (∀ n, runOn σ s n = .next (f n)) ∧ QuietRun σ f := by
  choose f hf using hgo
  have hstep (n : Nat) : step ((f n).withSchedule [σ n]) = .next (f (n + 1)) := by
    simpa only [runOn, hf n] using hf (n + 1)
  have hinv (n : Nat) : WseInv (f n) := by
    induction n with
    | zero =>
      have h0 : s = f 0 := Host.Outcome.next.inj (hf 0)
      exact h0 ▸ hs
    | succ n ih => exact stepKeepsTheInvariant _ _ (ih.withSchedule _) (hstep n)
  exact ⟨f, hf, hinv, hstep, fun n => hu.2 n _ (hf n), hu.1⟩

/-- A frame in flight: its BACKEND, and the units emitted so far. -/
structure InFlight (k : Backend) (i : Nat) (s : State) : Prop where
  chan : s.chan = .transmitting
  backend : s.backend = k
  units : s.txIndex.toNat = i

/-- A frame completed under BACKEND `k`. -/
def Completed (k : Backend) (s : State) : Prop :=
  s.chan = .idle ∧ s.done = true ∧ s.backend = k ∧ s.txIndex.toNat = frameLen k

theorem frameLen_le (k : Backend) : frameLen k ≤ 33 := by cases k <;> decide

section
variable {σ : Nat → Event} {f : Nat → State} {k : Backend} {i n : Nat}

theorem QuietRun.unit_left (h : QuietRun σ f) (hn : InFlight k i (f n)) : i < frameLen k := by
  obtain ⟨hc, rfl, rfl⟩ := hn
  exact (h.inv n).txInFrame hc

/-- An engine step takes the frame one unit on, or to its end. -/
theorem QuietRun.engine_advances (h : QuietRun σ f) (hn : InFlight k i (f n)) {g : Nat} (hg : σ n = .engine g) :
    Completed k (f (n + 1)) ∨ InFlight k (i + 1) (f (n + 1)) := by
  have hlt := (h.unit_left hn).trans_le (frameLen_le k)
  obtain ⟨hc, rfl, rfl⟩ := hn
  obtain ⟨hb, ⟨_, ⟨hi, hd, hx⟩ | ⟨ht, hx⟩⟩ | ⟨hne, _⟩⟩ :=
    step_progress (s := (f n).withSchedule [σ n]) hlt hc rfl (h.next n) (h.noFault (n + 1)) (h.noReset n)
  · exact .inl ⟨hi, hd, hb, hx⟩
  · exact .inr ⟨ht, hb, hx⟩
  · exact absurd hg (hne g)

/-- Any other step leaves the frame where it is; BUSY stays set, and in BBS mode a TXDATA write sets it. -/
theorem QuietRun.other_keeps (h : QuietRun σ f) (hn : InFlight k i (f n)) (hg : ∀ g, σ n ≠ .engine g) :
    InFlight k i (f (n + 1)) ∧ ((f n).busy = true → (f (n + 1)).busy = true) ∧
    ((∃ d, performedBy (σ n) = some (.wrTxdata d)) → k = .bbs → (f (n + 1)).busy = true) := by
  have hlt := (h.unit_left hn).trans_le (frameLen_le k)
  obtain ⟨hc, rfl, rfl⟩ := hn
  obtain ⟨hb, ⟨⟨g, he⟩, _⟩ | ⟨_, ht, hx, hy, hw⟩⟩ :=
    step_progress (s := (f n).withSchedule [σ n]) hlt hc rfl (h.next n) (h.noFault (n + 1)) (h.noReset n)
  · exact absurd he (hg g)
  · exact ⟨⟨ht, hb, congrArg _ hx⟩, hy, hw⟩

/-- While no engine step is taken, the frame stays in flight and BUSY, once set, stays set. -/
theorem QuietRun.stays (h : QuietRun σ f) (hn : InFlight k i (f n)) {m : Nat} (hm : n ≤ m)
    (hno : ∀ j, n ≤ j → j < m → ∀ g, σ j ≠ .engine g) :
    InFlight k i (f m) ∧ ((f n).busy = true → (f m).busy = true) := by
  induction m, hm using Nat.le_induction with
  | base => exact ⟨hn, id⟩
  | succ m hm ih =>
    obtain ⟨hfl, hy⟩ := ih fun j hj hlt => hno j hj (hlt.trans m.lt_succ_self)
    obtain ⟨hfl', hy', _⟩ := h.other_keeps hfl (hno m hm m.lt_succ_self)
    exact ⟨hfl', hy' ∘ hy⟩

/-! ### Fairness -/

/-- R283: a quiet run from `s` whose Engine is weakly fair, and in BBS mode the host writes a byte whenever the frame
waits for one. -/
structure FairRun (σ : Nat → Event) (s : State) (k : Backend) (f : Nat → State) : Prop extends QuietRun σ f where
  run : ∀ n, runOn σ s n = .next (f n)
  fair : WeaklyFair σ s
  feeds : k = .bbs → HostFeeds σ s

variable {s : State}

/-- A frame in flight that no engine step moves comes to have a byte to send, by the host's own progress. -/
theorem FairRun.comes_ready (h : FairRun σ s k f) (hn : InFlight k i (f n))
    (hno : ∀ j, n ≤ j → ∀ g, σ j ≠ .engine g) : ∃ m, n ≤ m ∧ EngineReady (f m) := by
  by_cases hready : k = .bbs → (f n).busy = true
  · exact ⟨n, le_rfl, hn.chan, fun hb => hready (hn.backend ▸ hb)⟩
  · obtain ⟨hk, hy⟩ := Classical.not_imp.1 hready
    obtain ⟨m, hm, hw⟩ := h.feeds hk n _ (h.run n) hn.chan (hn.backend.trans hk) (by simpa using hy)
    obtain ⟨hfl, _⟩ := h.stays hn hm fun j hj _ => hno j hj
    obtain ⟨hfl', _, hset⟩ := h.other_keeps hfl (hno m hm)
    exact ⟨m + 1, by omega, hfl'.chan, fun _ => hset hw hk⟩

/-- The fair Engine takes a step of every frame in flight. -/
theorem FairRun.engine_comes (h : FairRun σ s k f) (hn : InFlight k i (f n)) :
    ∃ m, n ≤ m ∧ ∃ g, σ m = .engine g := by
  by_contra hnone
  have hno : ∀ j, n ≤ j → ∀ g, σ j ≠ .engine g := fun j hj g hg => hnone ⟨j, hj, g, hg⟩
  obtain ⟨m, hm, _, hbusy⟩ := h.comes_ready hn hno
  obtain ⟨hfl, _⟩ := h.stays hn hm fun j hj _ => hno j hj
  have henabled : ∀ j, m ≤ j → ∃ t, runOn σ s j = .next t ∧ EngineEnabled t := fun j hj => by
    obtain ⟨hfl', hy⟩ := h.stays hfl hj fun l hl _ => hno l (hm.trans hl)
    have hready' : EngineReady (f j) :=
      ⟨hfl'.chan, fun hb => hy (hbusy (hfl.backend.trans (hfl'.backend.symm.trans hb)))⟩
    exact ⟨f j, h.run j, (h.inv j).engineStep_enabled hready' 0⟩
  obtain ⟨j, hj, g, hg⟩ := h.fair m henabled
  exact hno j (hm.trans hj) g hg

/-- The first engine step after `n` moves the frame. -/
theorem FairRun.advances (h : FairRun σ s k f) (hn : InFlight k i (f n)) :
    ∃ m, Completed k (f m) ∨ InFlight k (i + 1) (f m) := by
  classical
  have hcomes := h.engine_comes hn
  obtain ⟨hm, g, hg⟩ := Nat.find_spec hcomes
  obtain ⟨hfl, _⟩ := h.stays hn hm fun j hj hlt g hg => Nat.find_min hcomes hlt ⟨hj, g, hg⟩
  exact ⟨Nat.find hcomes + 1, h.engine_advances hfl hg⟩

/-- A frame in flight completes, by induction on the units left. -/
theorem FairRun.completes (h : FairRun σ s k f) (left : Nat) (hl : frameLen k ≤ i + left) (hn : InFlight k i (f n)) :
    ∃ m, Completed k (f m) := by
  induction left generalizing i n with
  | zero => exact absurd (h.unit_left hn) (by omega)
  | succ left ih =>
    obtain ⟨m, hdone | hfl⟩ := h.advances hn
    · exact ⟨m, hdone⟩
    · exact ih (by omega) hfl

end

/-- Settles O30: the enabling from the invariant, and the completion from fairness, unit by unit. -/
theorem engineEnabledExactly : Obligations.EngineEnabledExactly := by
  refine ⟨fun s gap h => ⟨fun hr => h.engineStep_enabled hr gap, fun hr => engineStep_disabled hr gap⟩, ?_⟩
  intro σ s hs hc hgo hu hfair hfeeds
  obtain ⟨f, hrun, hquiet⟩ := exists_quietRun hs hgo hu
  have h : FairRun σ s s.backend f := ⟨hquiet, hrun, hfair, hfeeds⟩
  have h0 : s = f 0 := Host.Outcome.next.inj (hrun 0)
  have hstart : InFlight s.backend s.txIndex.toNat (f 0) := h0 ▸ ⟨hc, rfl, rfl⟩
  obtain ⟨n, hi, hd, hb, hx⟩ := h.completes (frameLen s.backend) (by omega) hstart
  exact ⟨n, f n, hrun n, hi, hd, hb, hx⟩

end Sys2Proof.Machine
end

section
/-! PROOF. The DMA transport (43_dma_serial.md): the engine's step (R212, R213), a frame from BUILD to its end (R210,
R214), and the host's stores while the buffer is on loan (R216). -/

namespace Sys2Proof.Machine

/-! ### The engine's step -/

theorem engineStep_dma {s : State} (hb : s.backend = .dma) (hc : s.chan = .transmitting) (gap : Nat) :
    engineStep gap s = dmaStep s := by
  rw [engineStep, if_pos hc, hb]

theorem engineStep_dma_disabled {s : State} (hb : s.backend = .dma)
    (h : ¬(s.chan = .transmitting ∧ s.txIndex.toNat < 33)) (gap : Nat) :
    engineStep gap s = .fault .engineNotEnabled := by
  by_cases hc : s.chan = .transmitting
  · rw [engineStep_dma hb hc]
    exact if_neg fun hx => h ⟨hc, hx⟩
  · exact if_neg hc

theorem dmaStep_aborted {s : State} (hx : s.txIndex.toNat < Config.serFrameLen)
    (ha : dmaAdmits s.dmaMap s.dmaNext 1 = false) :
    dmaStep s = .next (s.faultEntry .transferAbort) := by
  rw [dmaStep, if_pos hx, if_neg (by simp [ha])]

theorem dmaStep_emits {s : State} (hx : s.txIndex.toNat < Config.serFrameLen)
    (ha : dmaAdmits s.dmaMap s.dmaNext 1 = true) :
    dmaStep s = .next (s.shiftOut (memRead s.memory s.dmaNext)).endUnit := by
  rw [dmaStep, if_pos hx, if_pos ha]

/-- The unit of a serial frame is counted, and the frame completes with it exactly at TX_INDEX = 32. -/
theorem endUnit_serial {s : State} (hlen : frameLen s.backend = 33) (hc : s.chan = .transmitting)
    (hx : s.txIndex.toNat < 33) : s.endUnit = { s with
      txIndex := s.txIndex + 1#6
      chan := if s.txIndex.toNat = 32 then .idle else .transmitting
      busy := if s.txIndex.toNat = 32 then false else s.busy
      done := if s.txIndex.toNat = 32 then true else s.done } := by
  by_cases hlast : s.txIndex.toNat = 32
  · rw [endUnit_last (by omega)]
    simp [State.complete, State.countUnit, hlast]
  · rw [endUnit_more (by omega)]
    simp [State.countUnit, hlast, hc]

/-- Settles O28: whether the step is enabled, then whether the byte's address is admitted. -/
theorem dmaEngineStep : Obligations.DmaEngineStep := by
  intro s gap hb
  refine ⟨fun h => engineStep_dma_disabled hb h gap, fun hc hx ha => ?_, fun hc hx ha => ?_⟩
  · rw [engineStep_dma hb hc, dmaStep_aborted hx ha, faultEntry_of_transmitting hc]
  · rw [engineStep_dma hb hc, dmaStep_emits hx ha]
    exact congrArg _ (endUnit_serial (s := s.shiftOut _) (congrArg frameLen hb) hc hx)

/-! ### A whole frame -/

/-- START in DMA mode sets BUSY (R210). -/
theorem startFrame_dma {s : State} (hb : s.backend = .dma) : s.startFrame = s.openFrame.setBusy true := by
  rw [State.startFrame, hb]; rfl

/-- Bytes written from `a` are read back in order, whatever is made of each. -/
theorem flatMap_memRead_memWriteBytes {α : Type} (f : Byte → List α) (m : Memory) (a : Nat) (bytes : List Byte) :
    (List.range bytes.length).flatMap (fun j => f (memRead (memWriteBytes m a bytes) (a + j))) = bytes.flatMap f := by
  have hread : (List.range bytes.length).map (fun j => memRead (memWriteBytes m a bytes) (a + j)) = bytes := by
    refine List.ext_getElem (by simp) fun j _ hj => ?_
    rw [List.getElem_map, List.getElem_range]
    exact memRead_of_readCell ((readCell_memWriteBytes_inside _ _ _ _ hj).trans (List.getElem?_eq_getElem hj))
  conv_rhs => rw [← hread, List.flatMap_map]

/-- The last unit of a DMA frame: the byte at DMA_ADDR + 32, with which the frame completes. -/
theorem dma_last_unit {s : State} {g : Nat} {rest : List Event} (hr : s.refusedMark = none)
    (hc : s.chan = .transmitting) (hb : s.backend = .dma) (hx : s.txIndex = 32#6)
    (ha : dmaAdmits s.dmaMap (s.dmaAddr.toNat + 32) 1 = true) (hs : s.schedule = .engine g :: rest) :
    step s = .next { s with
      schedule := rest, chan := .idle, busy := false, done := true, txIndex := 33#6, line := .low
      trace := s.trace ++ serBits (memRead s.memory (s.dmaAddr.toNat + 32)) } := by
  have hn : s.txIndex.toNat = 32 := congrArg BitVec.toNat hx
  obtain ⟨_, _, hemits⟩ := dmaEngineStep (s.withSchedule rest) g hb
  rw [step_engine hr hs, hemits hc (by simp [hn]) (by simpa [hn] using ha)]
  simp [State.withSchedule, hx]

/-- A DMA frame in flight from its first unit to its end: the 33 bytes of the buffer go out in order. -/
theorem dma_frame {s : State} {gaps : List Nat} {rest : List Event} (hr : s.refusedMark = none)
    (hc : s.chan = .transmitting) (hb : s.backend = .dma) (hx : s.txIndex = 0#6)
    (ha : dmaAdmits s.dmaMap s.dmaAddr.toNat 33 = true) (hg : gaps.length = 33)
    (hs : s.schedule = gaps.map .engine ++ rest) :
    Sys2Proof.core.run 33 s = .next { s with
      schedule := rest, chan := .idle, busy := false, done := true, txIndex := 33#6, line := .low
      trace := s.trace ++ (List.range 33).flatMap fun j => serBits (memRead s.memory (s.dmaAddr.toNat + j)) } := by
  obtain ⟨gaps, g, rfl⟩ := (List.eq_nil_or_concat' gaps).resolve_left (by rintro rfl; cases hg)
  have hg : gaps.length = 32 := by simpa using hg
  have hs : s.schedule = gaps.map .engine ++ (.engine g :: rest) := by simpa using hs
  have hnext : s.dmaNext = s.dmaAddr.toNat := by simp [State.dmaNext, hx]
  have hunits := dma_units (.engine g :: rest) gaps s hr hc hb
    (fun j hj => by rw [hnext]; exact dmaAdmits_byte ha (by omega)) (by simp [hx, hg]) hs
  rw [hg, hnext] at hunits
  rw [run_last 32 hunits (dma_last_unit hr hc hb (by simp [hx]) (dmaAdmits_byte ha (by decide)) rfl),
    List.range_succ (n := 32)]
  simp

/-- A DMA frame from START to its end. -/
theorem dma_frame_from_start {s : State} {gaps : List Nat} {rest : List Event} (hr : s.refusedMark = none)
    (hc : s.chan = .idle) (hb : s.backend = .dma) (hv : s.frameValid = true)
    (ha : dmaAdmits s.dmaMap s.dmaAddr.toNat 33 = true) (hg : gaps.length = 33)
    (hs : s.schedule = cmd .start :: (gaps.map .engine ++ rest)) :
    Sys2Proof.core.run 34 s = .next { s with
      schedule := rest, chan := .idle, busy := false, done := true, txIndex := 33#6, line := .low
      bytesAccepted := 0, frameBackend := .dma
      trace := s.trace ++ (List.range 33).flatMap fun j => serBits (memRead s.memory (s.dmaAddr.toNat + j)) } := by
  have hstart := (step_start hr hc (fun _ => hv) hs).trans (congrArg _ (startFrame_dma hb))
  rw [run_step 33 hstart]
  refine Eq.trans (dma_frame hr rfl hb rfl ha hg rfl) ?_
  simp [State.setBusy, State.openFrame, State.withSchedule, hb]

/-- Settles O58: BUILD puts the frame into the buffer, START opens it, and the 33 bytes are read back. -/
theorem dmaFrameIsSentWhole : Obligations.DmaFrameIsSentWhole := by
  intro s gaps rest hr hc hb ha hg hs
  let t := s.withSchedule (cmd .start :: (gaps.map .engine ++ rest))
  have hbuild : step s = .next t.storeFrame.loadFrame := (step_build hr hs).trans (exec_build_dma hc hb ha)
  have hline := flatMap_memRead_memWriteBytes serBits s.memory s.dmaAddr.toNat (buildFrameSerial (colorOf s.color))
  rw [buildFrameSerial_length] at hline
  rw [run_step 34 hbuild, dma_frame_from_start (gaps := gaps) (rest := rest) (by simpa [t]) (by simpa [t])
    (by simpa [t]) rfl (by simpa [t]) hg (by simp [t]), storeFrame_loadFrame_eq (by exact hb)]
  simp [t, State.withSchedule, hline]

/-! ### Host stores while the buffer is on loan -/

theorem onLoan_iff (s : State) : s.onLoan = true ↔ s.backend = .dma ∧ s.chan = .transmitting := by
  simp [State.onLoan]

theorem inDmaBuffer_iff (s : State) (a : Nat) :
    s.inDmaBuffer a = true ↔ s.dmaAddr.toNat ≤ a ∧ a < s.dmaAddr.toNat + 33 := by
  rw [State.inDmaBuffer, Bool.and_eq_true, decide_eq_true_eq, decide_eq_true_eq]
  rfl

/-- A store of the bytes `a .. a + n` touches the buffer on loan. -/
theorem onLoan_and_touches_iff (s : State) (a n : Nat) :
    (s.onLoan && (List.range (n + 1)).any fun j => s.inDmaBuffer (a + j)) = true ↔
      s.backend = .dma ∧ s.chan = .transmitting ∧ s.dmaAddr.toNat ≤ a + n ∧ a ≤ s.dmaAddr.toNat + 32 := by
  have hoverlap : (∃ j < n + 1, s.dmaAddr.toNat ≤ a + j ∧ a + j < s.dmaAddr.toNat + 33) ↔
      s.dmaAddr.toNat ≤ a + n ∧ a ≤ s.dmaAddr.toNat + 32 := by
    refine ⟨?_, fun h => ⟨s.dmaAddr.toNat - a, by omega⟩⟩
    rintro ⟨j, hj, hlow, hhigh⟩
    omega
  simp only [Bool.and_eq_true, onLoan_iff, List.any_eq_true, List.mem_range, inDmaBuffer_iff, hoverlap, and_assoc]

/-- R216, R328: what a store does to the model faults. -/
theorem storeBytes_modelFaults (s : State) (a : Nat) {bytes : List Byte} {n : Nat} (hn : bytes.length = n + 1) :
    (s.storeBytes a bytes).modelFaults =
      if s.backend = .dma ∧ s.chan = .transmitting ∧ s.dmaAddr.toNat ≤ a + n ∧ a ≤ s.dmaAddr.toNat + 32 then
        (s.recordModelFault .loanViolation).modelFaults
      else s.modelFaults := by
  rw [State.storeBytes, hn]
  simp only [onLoan_and_touches_iff]
  split
  · rfl
  · rfl

theorem mem_recordModelFault (f : ModelFault) (s : State) : f ∈ (s.recordModelFault f).modelFaults := by
  rw [State.recordModelFault_modelFaults]
  split
  · assumption
  · simp

/-- A store that touches the loaned buffer records the fault, and any other records nothing. -/
theorem storeBytes_records (s : State) (a : Nat) {bytes : List Byte} {n : Nat} (hn : bytes.length = n + 1) :
    (s.backend = .dma → s.chan = .transmitting → s.dmaAddr.toNat ≤ a + n → a ≤ s.dmaAddr.toNat + 32 →
      .loanViolation ∈ (s.storeBytes a bytes).modelFaults) ∧
    (¬(s.backend = .dma ∧ s.chan = .transmitting ∧ s.dmaAddr.toNat ≤ a + n ∧ a ≤ s.dmaAddr.toNat + 32) →
      (s.storeBytes a bytes).modelFaults = s.modelFaults) := by
  rw [storeBytes_modelFaults s a hn]
  refine ⟨fun hb hc hlow hhigh => ?_, fun h => if_neg h⟩
  rw [if_pos ⟨hb, hc, hlow, hhigh⟩]
  exact mem_recordModelFault _ s

theorem storeBytes_only_memory_modelFaults (s : State) (a : Nat) (bytes : List Byte) : s.storeBytes a bytes =
    { s with memory := (s.storeBytes a bytes).memory, modelFaults := (s.storeBytes a bytes).modelFaults } := by
  rw [State.storeBytes_memory]
  exact storeBytes_eq s a bytes

@[simp] theorem State.storeBytes_statusWord (s : State) (a : Nat) (bytes : List Byte) :
    (s.storeBytes a bytes).statusWord = s.statusWord := by
  rw [storeBytes_eq]; rfl

/-- Settles O35: both stores are stores of bytes, of one and of four. -/
theorem hostStoreDuringLoan : Obligations.HostStoreDuringLoan := by
  refine ⟨fun s addr v => ?_, fun s addr w h => ?_⟩
  · refine ⟨_, rfl, State.storeBytes_statusWord .., fun a => ?_, storeBytes_only_memory_modelFaults ..,
      storeBytes_records s addr.toNat (n := 0) rfl⟩
    rw [State.storeBytes_memory]
    exact readCell_memWrite ..
  · refine ⟨_, hostStoreWord_inside h w s, State.storeBytes_statusWord .., storeBytes_only_memory_modelFaults ..,
      fun j hj => ?_, fun a hout => ?_, storeBytes_records s addr.toNat (n := 3) rfl⟩
    · rw [State.storeBytes_memory]
      exact readCell_memWriteBytes_lane _ _ w hj
    · rw [State.storeBytes_memory]
      exact readCell_memWriteBytes_outside _ _ hout

end Sys2Proof.Machine
end

section
/-! PROOF. The pulse generator's step (44_pulse_generator.md R241, R243). -/

namespace Sys2Proof.Machine

theorem engineStep_pg {s : State} (hb : s.backend = .pg) (hc : s.chan = .transmitting) (gap : Nat) :
    engineStep gap s = pgStep s := by
  rw [engineStep, if_pos hc, hb]

theorem engineStep_pg_disabled {s : State} (hb : s.backend = .pg)
    (h : ¬(s.chan = .transmitting ∧ s.txIndex.toNat < 25)) (gap : Nat) :
    engineStep gap s = .fault .engineNotEnabled := by
  by_cases hc : s.chan = .transmitting
  · rw [engineStep_pg hb hc]
    exact if_neg fun hx => h ⟨hc, hx⟩
  · exact if_neg hc

theorem pgStep_emits {s : State} {d : Descriptor} (hx : s.txIndex.toNat < Config.pgFrameLen)
    (hd : s.nextDescriptor = some d) : pgStep s = .next (s.emitPulse d).endUnit := by
  rw [pgStep, if_pos hx, hd]

/-- A unit of a frame of `n + 1` units is counted, and the frame completes with it exactly at TX_INDEX = `n`. -/
theorem endUnit_of_frameLen {s : State} {n : Nat} (hlen : frameLen s.backend = n + 1) (hc : s.chan = .transmitting)
    (hx : s.txIndex.toNat < n + 1) : s.endUnit = { s with
      txIndex := s.txIndex + 1#6
      chan := if s.txIndex.toNat = n then .idle else .transmitting
      busy := if s.txIndex.toNat = n then false else s.busy
      done := if s.txIndex.toNat = n then true else s.done } := by
  by_cases hlast : s.txIndex.toNat = n
  · rw [endUnit_last (by omega)]
    simp [State.complete, State.countUnit, hlast]
  · rw [endUnit_more (by omega)]
    simp [State.countUnit, hlast, hc]

theorem emitPulse_eq (s : State) (d : Descriptor) : s.emitPulse d = { s with
    trace := s.trace ++ [.seg (levelOf d.level1) d.length1.toNat, .seg (levelOf d.level2) d.length2.toNat]
    line := levelOf d.level2 } := by
  simp [State.emitPulse, State.emit]

/-- Settles O29: whether the step is enabled; the pulse of its descriptor, and the count of the unit. -/
theorem pulseGeneratorStep : Obligations.PulseGeneratorStep := by
  intro s gap hb
  refine ⟨fun h => engineStep_pg_disabled hb h gap, fun l x hc hf hx hl => ?_⟩
  have hd : s.nextDescriptor = some x := by rw [State.nextDescriptor, hf, ← hl]
  rw [engineStep_pg hb hc, pgStep_emits hx hd, emitPulse_eq]
  exact congrArg _ (endUnit_of_frameLen (congrArg frameLen hb) hc hx)

end Sys2Proof.Machine
end

section
/-! PROOF. Reads and writes of the registers (45_channel_control.md R271 to R277, R284 to R288, R292 to R294): where each
register stands, what a read of it returns, and what a write of it takes. -/

namespace Sys2Proof.Machine

/-! ### Offsets -/

/-- 10_state.md R42: an aligned offset past the registers and outside the FRAME window is reserved. -/
theorem decodeAccess_reserved_of_range {offset : BitVec 12} (h4 : offset.toNat % 4 = 0)
    (hr : (0x01C ≤ offset.toNat ∧ offset.toNat ≤ 0x0FC) ∨ 0x180 ≤ offset.toNat) (write : Bool) (data : Word) :
    decodeAccess (accessWord write offset) data = .ok (if write then .wrRsvd offset data else .rdRsvd offset) := by
  have ha : offsetAligned offset = true := by simpa [offsetAligned] using h4
  have hu : offsetUnused offset = true := by
    simp only [offsetUnused, Bool.or_eq_true, Bool.and_eq_true, decide_eq_true_eq]
    omega
  exact decodeAccess_reserved ha hu write data

/-! ### Reads -/

theorem ctrlWord_eq_append (s : State) : s.ctrlWord = 0#29 ++ BitVec.ofBool s.irqEn ++ s.backend.code := by
  unfold State.ctrlWord
  cases s.irqEn <;> cases s.backend <;> rfl

theorem setWidth_append_eq_or_shiftLeft {m n k : Nat} (hi : BitVec m) (lo : BitVec n) :
    (hi ++ lo).setWidth k = lo.setWidth k ||| hi.setWidth k <<< n := by
  rw [BitVec.setWidth_append_eq_shiftLeft_setWidth_or, BitVec.or_comm]

/-- R273: the shifted fields of STATUS, put side by side. -/
theorem statusWord_eq_append (s : State) : s.statusWord =
    0#10 ++ s.txIndex ++ 0#7 ++ BitVec.ofBool s.frameValid ++ BitVec.ofBool s.cmdErr ++ s.faultCause.code ++
      BitVec.ofBool s.fault ++ BitVec.ofBool s.done ++ BitVec.ofBool s.busy ++ s.chan.code := by
  refine Eq.trans ?_ (BitVec.setWidth_eq _)
  -- the fields, each at its shift, lowest first as in `statusWord`
  simp only [setWidth_append_eq_or_shiftLeft, BitVec.shiftLeft_or_distrib, ← BitVec.shiftLeft_add, ← BitVec.or_assoc]
  simp only [State.statusWord, flagAt, BitVec.zeroExtend_eq_setWidth, BitVec.setWidth_zero, BitVec.zero_shiftLeft,
    BitVec.or_zero]

theorem exec_rdCtrl (s : State) : exec .rdCtrl s = .next (s.answer s.ctrlWord) := rfl

theorem exec_rdStatus (s : State) : exec .rdStatus s = .next (s.answer s.statusWord) := rfl

/-- Settles O8: the read answers the CTRL word. -/
theorem readControlWord : Obligations.ReadControlWord := by
  refine ⟨rfl, fun s => ?_⟩
  rw [exec_rdCtrl, ctrlWord_eq_append]
  rfl

/-- Settles O9: the read answers the STATUS word. -/
theorem readStatusWord : Obligations.ReadStatusWord := by
  refine ⟨rfl, fun s => ?_⟩
  rw [exec_rdStatus, statusWord_eq_append]
  rfl

theorem exec_rdColor (s : State) : exec .rdColor s = .next (s.answer (0#8 ++ s.color)) := by
  show execRdColor s = _
  rw [execRdColor, BitVec.zeroExtend_eq_setWidth, BitVec.setWidth_eq_append (by decide)]
  rfl

/-- Settles O10: every read is an answer, and the invariant has DMA_ADDR aligned. -/
theorem readOtherRegisters : Obligations.ReadOtherRegisters :=
  ⟨rfl, rfl, rfl, rfl, rfl, fun _ h4 hr => decodeAccess_reserved_of_range h4 hr false 0#32,
    fun s => ⟨exec_rdColor s, rfl, rfl, rfl, rfl, WseInv.dmaAligned, fun _ => rfl⟩⟩

/-! ### Writes -/

theorem ctrlBackend_of_code {data : Word} {nb : Backend} (h : data.extractLsb' 0 2 = nb.code) :
    ctrlBackend data = some nb := by
  rw [ctrlBackend, h]
  cases nb <;> rfl

theorem ctrlBackend_reserved {data : Word} (h : data.extractLsb' 0 2 = 3#2) : ctrlBackend data = none := by
  rw [ctrlBackend, h]
  rfl

theorem exec_wrCtrl_idle {s : State} {data : Word} {nb : Backend} (hc : s.chan = .idle)
    (hn : ctrlBackend data = some nb) :
    exec (.wrCtrl data) s = .next ((s.setIrqEn (ctrlIrqEn data)).setBackend nb) := by
  show execWrCtrl data s = _
  rw [execWrCtrl, hc, hn]

/-- R272: BACKEND is locked outside Idle, and the reserved value leaves it unchanged. -/
theorem exec_wrCtrl_locked {s : State} {data : Word} (h : s.chan ≠ .idle ∨ ctrlBackend data = none) :
    exec (.wrCtrl data) s = .next (s.setIrqEn (ctrlIrqEn data)) := by
  show execWrCtrl data s = _
  unfold execWrCtrl
  split
  next hc hn => simp [hc, hn] at h
  next => rfl

theorem setBackend_eq (s : State) (nb : Backend) : s.setBackend nb =
    { s with backend := nb, frameValid := if nb = s.backend then s.frameValid else false } := by
  by_cases h : nb = s.backend <;> simp [State.setBackend, h]

/-- Settles O13, by whether BACKEND takes the write. -/
theorem writeControl : Obligations.WriteControl := by
  refine fun s data => ⟨rfl, fun nb hc hcode => ?_, fun h => exec_wrCtrl_locked (h.imp_right ctrlBackend_reserved)⟩
  rw [exec_wrCtrl_idle hc (ctrlBackend_of_code (nb := nb) hcode), setBackend_eq]
  rfl

theorem exec_wrStatus (data : Word) (s : State) : exec (.wrStatus data) s = .next { s with
    done := if data.getLsbD 3 then false else s.done, cmdErr := if data.getLsbD 7 then false else s.cmdErr } := by
  show execWrStatus data s = _
  rw [execWrStatus, statusClearDone, statusClearCmdErr]
  cases data.getLsbD 3 <;> cases data.getLsbD 7 <;> simp

/-- 60_exceptions.md R311: without DONE and FAULT the interrupt is not asserted. -/
theorem irq_eq_false {s : State} (hd : s.done = false) (hf : s.fault = false) : s.irq = false := by
  simp [State.irq, hd, hf]

/-- Settles O14: the write's effect, and the interrupt without DONE and FAULT. -/
theorem writeStatusClears : Obligations.WriteStatusClears :=
  fun s data => ⟨rfl, _, exec_wrStatus data s, rfl, fun hd hf => irq_eq_false (if_pos hd) hf⟩

/-- R36, R292: the colour that COLOR holds after a write has its fields at their bits of DATA. -/
theorem colorOf_colorField (data : Word) : colorOf (colorField data) =
    ⟨data.extractLsb' 16 8, data.extractLsb' 8 8, data.extractLsb' 0 8⟩ := by
  simp (disch := decide) only [colorOf, colorField, BitVec.extractLsb'_extractLsb'_of_le]

/-- Settles O15: the write puts DATA[23:0] into COLOR, once or twice. -/
theorem writeColor : Obligations.WriteColor :=
  fun _ data => ⟨rfl, _, rfl, rfl, colorOf_colorField data, rfl⟩

/-- R286: the mask keeps DATA[31:2]. -/
theorem dmaAddrField_eq_append (data : Word) : dmaAddrField data = data.extractLsb' 2 30 ++ 0#2 := by
  have hmask : 0xFFFFFFFC#32 = BitVec.allOnes 30 ++ 0#2 := rfl
  conv_lhs => rw [dmaAddrField, ← BitVec.extractLsb'_append_extractLsb' (len := 2) (w := 30) (x := data)]
  rw [hmask, BitVec.and_append, BitVec.and_allOnes, BitVec.and_zero]

theorem exec_wrDmaAddr_ignored {s : State} (hc : s.chan = .transmitting) (data : Word) :
    exec (.wrDmaAddr data) s = .next s := if_pos hc

theorem exec_wrDmaAddr_accepted {s : State} (hc : s.chan ≠ .transmitting) (data : Word) :
    exec (.wrDmaAddr data) s = .next { s with
      dmaAddr := data.extractLsb' 2 30 ++ 0#2, frameValid := if s.backend = .dma then false else s.frameValid } := by
  show execWrDmaAddr data s = _
  rw [execWrDmaAddr, if_neg hc, dmaAddrField_eq_append]
  by_cases hb : s.backend = .dma <;> simp [hb]

/-- Settles O16, by whether a frame is in flight. -/
theorem writeDmaAddress : Obligations.WriteDmaAddress :=
  fun _ data => ⟨rfl, fun hc => exec_wrDmaAddr_ignored hc data, fun hc => exec_wrDmaAddr_accepted hc data⟩

end Sys2Proof.Machine
end

section
/-! PROOF. Commands (45_channel_control.md): a write of CMD performs the command that its OP names (R276), NOP and the
reserved commands (R278, R279), and START in each of its branches (R280 with 42 R183, 43 R210, 44 R240). -/

namespace Sys2Proof.Machine

/-! ### NOP and the reserved commands -/

/-- R99: past the OPs of the six commands, bit 3 of OP tells the two reserved rows apart. -/
theorem commandOf_reserved {op : BitVec 4} (h : 6 ≤ op.toNat) (bit : Bool) (pair : BitVec 2) (byte : Byte) :
    commandOf op bit pair byte =
      if op.getLsbD 3 then .rsvd8F (op.extractLsb' 0 3) else .rsvd67 (op.extractLsb' 0 1) := by
  have hne {k : BitVec 4} (hk : k.toNat < 6) : op ≠ k := by
    rintro rfl
    omega
  simp (disch := decide) only [commandOf, hne, if_false]

/-- Settles O20, by OP. -/
theorem nopAndReservedCommands : Obligations.NopAndReservedCommands := by
  refine ⟨fun w h => decode_cmd_of_op h, fun w h => ?_, fun s => ⟨rfl, fun _ => rfl, fun _ => rfl⟩⟩
  rw [decode_cmd_of_op rfl, commandOf_reserved h]
  split
  · exact .inr ⟨_, rfl⟩
  · exact .inl ⟨_, rfl⟩

/-! ### START -/

theorem exec_start_outside_idle {s : State} (hc : s.chan ≠ .idle) : exec .start s = .next s.reject := if_pos hc

theorem exec_start_without_frame {s : State} (hc : s.chan = .idle) (hb : s.backend ≠ .bbs)
    (hv : s.frameValid = false) : exec .start s = .next s.reject := by
  show execStart s = _
  rw [execStart, if_neg (not_not.2 hc), if_pos ⟨hb, hv⟩]

theorem exec_start_accepted {s : State} (hc : s.chan = .idle) (hv : s.backend ≠ .bbs → s.frameValid = true) :
    exec .start s = .next s.startFrame := by
  show execStart s = _
  rw [execStart, if_neg (not_not.2 hc), if_neg fun h => by simp [hv h.1] at h]

/-- START in BBS mode clears BUSY (R183). -/
theorem startFrame_bbs {s : State} (hb : s.backend = .bbs) : s.startFrame = s.openFrame.setBusy false := by
  rw [State.startFrame, hb]; rfl

theorem openFrame_eq {s : State} {k : Backend} (hb : s.backend = k) : s.openFrame = { s with
    chan := .transmitting, done := false, txIndex := 0#6, bytesAccepted := 0, frameBackend := k } := by
  subst hb; rfl

/-- Settles O26, branch by branch, and for an accepted START transport by transport. -/
theorem startFrameCommand : Obligations.StartFrameCommand := by
  refine ⟨fun w h => decode_cmd_of_op h, fun s => ⟨exec_start_outside_idle, exec_start_without_frame,
    fun hc hb => ?_, fun hc hb hv => ⟨_, exec_start_accepted hc fun _ => hv, ?_, ?_⟩, fun hc hb hv => ?_⟩⟩
  · rw [exec_start_accepted hc (absurd hb), startFrame_bbs hb, openFrame_eq hb]; rfl
  · rw [startFrame_dma hb]; exact (onLoan_iff _).2 ⟨hb, rfl⟩
  · rw [startFrame_dma hb, openFrame_eq hb]; rfl
  · rw [exec_start_accepted hc fun _ => hv, startFrame_pg hb, openFrame_eq hb]

/-! ### A write of CMD -/

theorem exec_wrCmd_of_op {w : Word} {op : BitVec 4} (h : w.extractLsb' 0 4 = op) (s : State) : exec (.wrCmd w) s =
    exec (commandOf op (w.getLsbD 4) (w.extractLsb' 4 2) (w.extractLsb' 8 8)).toInstr s := by
  rw [exec_wrCmd, decodeCommand_eq_commandOf, h]

theorem exec_wrCmd_reserved {w : Word} (h : 6 ≤ (w.extractLsb' 0 4).toNat) (s : State) :
    exec (.wrCmd w) s = .next s.reject := by
  rw [exec_wrCmd_of_op rfl, commandOf_reserved h]
  split <;> rfl

theorem exec_build_completes (s : State) : ∃ t, exec .build s = .next t := by
  by_cases hc : s.chan = .idle
  · by_cases hb : s.backend = .dma
    · cases ha : dmaAdmits s.dmaMap s.dmaAddr.toNat Config.serFrameLen with
      | false => exact ⟨_, exec_build_aborted hc hb ha⟩
      | true => exact ⟨_, exec_build_dma hc hb ha⟩
    · exact ⟨_, exec_build_internal hc hb⟩
  · exact ⟨_, exec_build_rejected hc⟩

theorem exec_start_completes (s : State) : ∃ t, exec .start s = .next t := by
  by_cases hc : s.chan = .idle
  · by_cases hv : s.backend ≠ .bbs → s.frameValid = true
    · exact ⟨_, exec_start_accepted hc hv⟩
    · obtain ⟨hb, hv⟩ := Classical.not_imp.1 hv
      exact ⟨_, exec_start_without_frame hc hb (Bool.eq_false_iff.2 hv)⟩
  · exact ⟨_, exec_start_outside_idle hc⟩

/-- R276: every command completes within its step. -/
theorem exec_command_completes (c : Command) (s : State) : ∃ t, exec c.toInstr s = .next t := by
  cases c with
  | build => exact exec_build_completes s
  | start => exact exec_start_completes s
  | _ => exact ⟨_, rfl⟩

/-- Settles O19, by OP. -/
theorem writeCommandPerformsIt : Obligations.WriteCommandPerformsIt := by
  refine fun s w => ⟨rfl, fun h => exec_wrCmd_of_op h s, fun h => exec_wrCmd_of_op h s, fun h => exec_wrCmd_of_op h s,
    fun h => exec_wrCmd_of_op h s, fun h => exec_wrCmd_of_op h s, fun h => exec_wrCmd_of_op h s,
    fun h => exec_wrCmd_reserved h s, ?_, fun h hc hb => ?_⟩
  · rw [exec_wrCmd]
    exact exec_command_completes _ s
  · exact (exec_wrCmd_of_op h s).trans (exec_build_internal hc hb)

end Sys2Proof.Machine
end

section
/-! PROOF. What the host's accesses and the other steps leave alone: FRAME (41_frame_builder.md R159), a frame in flight
(45_channel_control.md R283, 60_exceptions.md R302), and STATE (R281). -/

namespace Sys2Proof.Machine

/-! ### FRAME -/

@[simp] theorem State.startFrame_frame (s : State) : s.startFrame.frame = s.frame := by
  rw [startFrame_eq]

@[simp] theorem State.storeBytes_frame (s : State) (a : Nat) (bytes : List Byte) :
    (s.storeBytes a bytes).frame = s.frame := by
  rw [storeBytes_eq]

@[simp] theorem State.endUnit_frame (s : State) : s.endUnit.frame = s.frame := by
  rcases endUnit_cases s with ⟨_, h⟩ | ⟨_, h⟩ <;> simp [h]

theorem engineStep_frame {g : Nat} {s t : State} (h : engineStep g s = .next t) : t.frame = s.frame := by
  obtain ⟨_, h⟩ := engineStep_next h
  rcases h with ⟨_, _, rfl⟩ | ⟨_, _, _, rfl⟩ | ⟨_, _, _, rfl⟩ | ⟨_, _, d, _, rfl⟩ <;> simp

/-- An instruction keeps FRAME or is BUILD. -/
theorem exec_keeps_frame_or_builds {i : Instr} {s t : State} (hi : ∀ w, i ≠ .wrCmd w) (h : exec i s = .next t) :
    t.frame = s.frame ∨ i = .build := by
  rcases exec_next hi h with rfl | ⟨v, rfl⟩ | ⟨_, rfl⟩ | ⟨v, rfl, _⟩ | ⟨d, _, rfl⟩ | ⟨d, nb, _, _, rfl⟩ | ⟨d, _, rfl⟩ |
    ⟨d, _, rfl⟩ | ⟨d, _, _, rfl⟩ | ⟨d, _, _, _, _, rfl⟩ | ⟨d, _, _, _, _, rfl⟩ | ⟨hbuild, _, _, rfl⟩ |
    ⟨hbuild, _, _, _, rfl⟩ | ⟨_, _, _, _, rfl⟩ | ⟨_, _, _, rfl⟩
  -- the two accepted BUILDs
  on_goal 13 => exact .inr hbuild
  on_goal 12 => exact .inr hbuild
  all_goals left; simp

/-- Settles O17: the ignored writes compute, and FRAME is followed by the event of the step. -/
theorem ignoredWritesChangeNothing : Obligations.IgnoredWritesChangeNothing := by
  refine ⟨fun _ => rfl, fun k data => ?_, fun _ data h4 hr => decodeAccess_reserved_of_range h4 hr true data,
    fun _ _ => ⟨rfl, fun _ => rfl, fun _ => rfl⟩, fun s t e rest hs h hne => ?_⟩
  · rw [frameOffset_eq_ofNat]
    exact decodeAccess_frame true k data
  rcases step_all hs h with ⟨i, hp, hi, h⟩ | ⟨acc, r, _, _, rfl⟩ | ⟨a, v, _, rfl⟩ | ⟨a, v, _, rfl⟩ |
    ⟨a, w, _, _, rfl⟩ | ⟨d, n, _, _, rfl⟩ | ⟨g, _, h⟩ | ⟨c, _, _, _, rfl⟩ | ⟨he, _⟩ | ⟨m, _, rfl⟩
  · rw [hp]
    exact .inr (congrArg some ((exec_keeps_frame_or_builds hi h).resolve_left hne))
  · simp at hne
  · simp at hne
  · simp at hne
  · simp at hne
  · simp at hne
  · exact absurd (engineStep_frame h) hne
  · simp at hne
  · exact .inl he
  · simp at hne

/-! ### A frame in flight -/

/-- Every instruction has the meaning of one that is no WR.CMD, and of the same TXDATA write if of one. -/
theorem exec_eq_performed (i : Instr) (s : State) : ∃ j, (∀ w, j ≠ .wrCmd w) ∧
    (∀ d, j = .wrTxdata d → i = .wrTxdata d) ∧ exec i s = exec j s := by
  by_cases hi : ∃ w, i = .wrCmd w
  · obtain ⟨w, rfl⟩ := hi
    refine ⟨(decodeCommand w).toInstr, ?_, ?_, exec_wrCmd w s⟩ <;>
      cases decodeCommand w <;> simp [Command.toInstr]
  · exact ⟨i, not_exists.1 hi, fun _ h => h, rfl⟩

/-- Settles O47: what an access can do in Transmitting leaves the frame alone, but for the two outcomes of a TXDATA write
in BBS mode. -/
theorem accessesDoNotDisturbAFrameInFlight : Obligations.AccessesDoNotDisturbAFrameInFlight := by
  intro i s t hc h
  obtain ⟨j, hj, htx, hexec⟩ := exec_eq_performed i s
  rw [hexec] at h
  rcases exec_next hj h with rfl | ⟨v, rfl⟩ | ⟨_, rfl⟩ | ⟨v, rfl, _⟩ | ⟨d, _, rfl⟩ | ⟨d, nb, _, hidle, _⟩ | ⟨d, _, rfl⟩ |
    ⟨d, _, rfl⟩ | ⟨d, _, hn, _⟩ | ⟨d, hd, hb, _, hy, rfl⟩ | ⟨d, hd, hb, _, hy, rfl⟩ | ⟨_, hidle, _⟩ |
    ⟨_, hidle, _⟩ | ⟨_, hidle, _⟩ | ⟨_, hidle, _⟩
  · left; simp [hc]
  · left; simp [hc]
  · left; simp [hc]
  · left; simp [hc]
  · left; simp [hc]
  · simp [hc] at hidle
  · left; simp +contextual [hc]
  · left; simp [hc]
  · exact absurd hc hn
  · exact .inr ⟨hb, hy, ⟨d, htx d hd⟩, rfl⟩
  · left; simp [hc, hb, hy, htx d hd]
  · simp [hc] at hidle
  · simp [hc] at hidle
  · simp [hc] at hidle
  · simp [hc] at hidle

/-! ### STATE -/

@[simp] theorem State.startFrame_chan (s : State) : s.startFrame.chan = .transmitting := by
  rw [startFrame_eq]

@[simp] theorem State.storeBytes_chan (s : State) (a : Nat) (bytes : List Byte) :
    (s.storeBytes a bytes).chan = s.chan := by
  rw [storeBytes_eq]

/-- Of the instructions only START, a TXDATA write and BUILD change STATE. -/
theorem exec_changes_chan {i : Instr} {s t : State} (hi : ∀ w, i ≠ .wrCmd w) (h : exec i s = .next t)
    (hne : t.chan ≠ s.chan) :
    (i = .start ∧ s.chan = .idle ∧ (s.backend ≠ .bbs → s.frameValid = true) ∧ t = s.startFrame) ∨
    (s.chan = .transmitting ∧ t = s.faultEntry .busyViolation) ∨
    (i = .build ∧ s.chan = .idle ∧ s.backend = .dma ∧
      dmaAdmits s.dmaMap s.dmaAddr.toNat Config.serFrameLen = false ∧ t = s.faultEntry .transferAbort) := by
  rcases exec_next hi h with rfl | ⟨v, rfl⟩ | ⟨_, rfl⟩ | ⟨v, rfl, _⟩ | ⟨d, _, rfl⟩ | ⟨d, nb, _, _, rfl⟩ | ⟨d, _, rfl⟩ |
    ⟨d, _, rfl⟩ | ⟨d, _, _, rfl⟩ | ⟨d, _, _, hc, _, ht⟩ | ⟨d, _, _, _, _, rfl⟩ | ⟨_, _, _, rfl⟩ |
    ⟨_, _, _, _, rfl⟩ | habort | hstart
  on_goal 15 => exact .inl hstart
  on_goal 14 => exact .inr (.inr habort)
  on_goal 10 => exact .inr (.inl ⟨hc, ht⟩)
  all_goals simp at hne

/-- The end of a unit that changes STATE is the end of the frame. -/
theorem endUnit_changes_chan {s : State} (hne : s.endUnit.chan ≠ s.chan) :
    s.endUnit.chan = .idle ∧ s.endUnit.txIndex.toNat = frameLen s.backend := by
  rcases endUnit_cases s with ⟨hlen, h⟩ | ⟨_, h⟩
  · rw [h]
    exact ⟨rfl, hlen⟩
  · simp [h] at hne

/-- A fault that cuts a frame in flight leaves STATE Faulted, FAULT set and X emitted. -/
theorem faultEntry_cuts_frame {s : State} (hc : s.chan = .transmitting) (c : FaultCause) :
    (s.faultEntry c).chan = .faulted ∧ (s.faultEntry c).fault = true ∧
      (s.faultEntry c).trace = s.trace ++ [.abort] := by
  simp [hc]

/-- An engine step that changes STATE emits the last unit or aborts the transfer. -/
theorem WseInv.engineStep_changes_chan {s t : State} (hinv : WseInv s) {g : Nat} (h : engineStep g s = .next t)
    (hne : t.chan ≠ s.chan) : s.chan = .transmitting ∧
    ((t.chan = .idle ∧ t.txIndex.toNat = frameLen s.backend) ∨ t = s.faultEntry .transferAbort) := by
  obtain ⟨hc, _, ⟨xs, rfl⟩ | rfl⟩ := hinv.engineStep_counts_or_aborts h
  · exact ⟨hc, .inl (endUnit_changes_chan hne)⟩
  · exact ⟨hc, .inr rfl⟩

/-- Settles O41, by the event of the step: accesses by their instruction, the engine by the unit it emits, an Env fault
and a reset; the other events keep STATE. -/
theorem stateTransitionsExactly : Obligations.StateTransitionsExactly := by
  intro s t e rest hinv hs h hne
  have cut {c : FaultCause} (hc : s.chan = .transmitting) := faultEntry_cuts_frame (s := s.withSchedule rest) hc c
  rcases step_all hs h with ⟨i, hp, hi, h⟩ | ⟨acc, r, _, _, rfl⟩ | ⟨a, v, _, rfl⟩ | ⟨a, v, _, rfl⟩ |
    ⟨a, w, _, _, rfl⟩ | ⟨d, n, _, _, rfl⟩ | ⟨g, he, h⟩ | ⟨c, _, hc, _, rfl⟩ | ⟨he, rfl⟩ | ⟨m, _, rfl⟩
  · rcases exec_changes_chan hi h hne with ⟨rfl, hc, hv, rfl⟩ | ⟨hc, rfl⟩ | ⟨rfl, hc, hb, ha, rfl⟩
    · exact .inl ⟨hc, State.startFrame_chan _, hp, hv⟩
    · exact .inr (.inr (.inl ⟨hc, cut hc⟩))
    · exact .inr (.inr (.inr (.inl ⟨hc, rfl, hp, hb, ha⟩)))
  · simp at hne
  · simp at hne
  · simp at hne
  · simp at hne
  · simp at hne
  · obtain ⟨hc, ⟨hidle, hlen⟩ | rfl⟩ := (hinv.withSchedule rest).engineStep_changes_chan h hne
    · exact .inr (.inl ⟨hc, hidle, ⟨g, he⟩, hlen⟩)
    · exact .inr (.inr (.inl ⟨hc, cut hc⟩))
  · exact .inr (.inr (.inl ⟨hc, cut hc⟩))
  · exact .inr (.inr (.inr (.inr ⟨he, rfl⟩)))
  · simp at hne

end Sys2Proof.Machine
end

section
/-! PROOF. The step (45_channel_control.md R270, 00_scope.md R5): the event that the schedule has next is the step of its
agent, and an access runs the instruction that it decodes to. -/

namespace Sys2Proof.Machine

/-- The step of a scheduled word access that decodes. -/
theorem step_access {s : State} {acc : BusAccess} {rest : List Event} {i : Instr} (hr : s.refusedMark = none)
    (hs : s.schedule = .bus acc :: rest) (hw : acc.width = .w32)
    (hd : decodeAccess (accessWord acc.write acc.offset) acc.data = .ok i) :
    step s = exec i (s.withSchedule rest) := by
  have hf : fetchAccess acc = .ok i := by simp [fetchAccess, hw, hd]
  rw [step_cons hr hs, runEvent, hf]

/-- R103: W and OFFSET, cut from an access word, give it back. -/
theorem accessWord_of_parts (a : BitVec 13) : accessWord (a.getLsbD 12) (a.extractLsb' 0 12) = a := by
  obtain ⟨write, offset, rfl⟩ := exists_accessWord a
  rw [accessWord_write, accessWord_offset]

/-- The event of a machine word runs the instruction that the word decodes to (log 14). -/
theorem step_eventOfWord {s : State} {c : CodeWord} {rest : List Event} {i : Instr} (hr : s.refusedMark = none)
    (hs : s.schedule = eventOfWord c :: rest) (hd : decode c = .ok i) : step s = exec i (s.withSchedule rest) := by
  cases c with
  | bus a data =>
    refine step_access hr hs rfl ?_
    rw [accessWord_of_parts]
    exact hd
  | cmd w =>
    obtain rfl := Except.ok.inj hd
    rw [← exec_wrCmd]
    have haccess : decodeAccess (accessWord true 0x00C#12) w = .ok (.wrCmd w) := rfl
    exact step_access hr hs rfl haccess

/-- An access placed by `withFetchWord` is the very next step (log 15). -/
theorem step_withFetchWord {nbits w : Nat} {i : Instr} (h : decodeTableWord nbits w = some i) (s : State) :
    step (s.withFetchWord nbits w) = exec i { s with refusedMark := none } := by
  unfold decodeTableWord at h
  split at h
  · cases h
  next c hword =>
    split at h
    next j hd =>
      obtain rfl := Option.some.inj h
      rw [State.withFetchWord, hword]
      exact step_eventOfWord (rest := s.schedule) rfl rfl hd
    · cases h

theorem hostDelay_passes {atLeast drawn : Nat} (h : atLeast ≤ drawn) (s : State) :
    hostDelay atLeast drawn s = .next (s.passTicks drawn) := if_pos h

theorem hostDelay_too_short {atLeast drawn : Nat} (h : drawn < atLeast) (s : State) :
    hostDelay atLeast drawn s = .fault .hostDelayTooShort := if_neg (Nat.not_le.2 h)

/-- Settles O6, event by event. -/
theorem stepRunsTheScheduledInstruction : Obligations.StepRunsTheScheduledInstruction :=
  ⟨fun _ _ _ _ hr hs hw hd => step_access hr hs hw hd, fun s _ _ _ h => step_withFetchWord h s,
    fun _ _ _ hr hs => step_cons hr hs, fun _ _ _ hr hs => step_cons hr hs, fun _ _ hr hs => step_cons hr hs,
    fun _ _ _ hr hs => step_cons hr hs, fun _ _ _ hr hs => step_cons hr hs, fun _ _ _ _ hr hs => step_cons hr hs,
    fun _ _ _ _ hr hs => step_cons hr hs,
    fun _ _ _ _ hr hs => ⟨fun h => (step_cons hr hs).trans (hostDelay_passes h _),
      fun h => (step_cons hr hs).trans (hostDelay_too_short h _)⟩,
    fun _ _ _ hr hs => step_cons hr hs⟩

end Sys2Proof.Machine
end

section
/-! PROOF. WSE faults (60_exceptions.md): fault entry (R306), the Env's fault step (R304), and that Faulted is left only
by reset (R308). -/

namespace Sys2Proof.Machine

/-! ### Fault entry -/

/-- R306, R74: Faulted has no loan. -/
theorem faultEntry_onLoan (s : State) (cause : FaultCause) : (s.faultEntry cause).onLoan = false := by
  simp [State.onLoan]

/-- R306: no engine step is enabled in Faulted. -/
theorem faultEntry_not_ready (s : State) (cause : FaultCause) : ¬EngineReady (s.faultEntry cause) := by
  simp [EngineReady]

/-- R311 after fault entry: the interrupt is asserted exactly if it is enabled. -/
theorem faultEntry_irq (s : State) (cause : FaultCause) : (s.faultEntry cause).irq = s.irqEn := by
  simp [State.irq]

/-- Settles O32: the fields that fault entry sets, and what follows from STATE and FAULT. -/
theorem faultEntryEffect : Obligations.FaultEntryEffect :=
  fun s cause => ⟨rfl, engineStep_disabled (faultEntry_not_ready s cause), faultEntry_onLoan s cause,
    (faultEntry_irq s cause).trans⟩

/-! ### The Env's fault step -/

/-- R304: the causes the Env may draw. -/
theorem mem_envCauses_iff (c : FaultCause) (k : Backend) :
    c ∈ envCauses k ↔ c = .transferAbort ∨ (k = .dma ∧ c = .bufferOverrun) := by
  cases k <;> simp [envCauses, or_comm]

theorem envFaultStep_enabled {s : State} {c : FaultCause} (hc : s.chan = .transmitting) (hm : c ∈ envCauses s.backend) :
    envFaultStep c s = .next (s.faultEntry c) := if_pos ⟨hc, hm⟩

theorem envFaultStep_disabled {s : State} {c : FaultCause} (h : ¬(s.chan = .transmitting ∧ c ∈ envCauses s.backend)) :
    envFaultStep c s = .fault .envFaultNotEnabled := if_neg h

/-- Settles O31, by whether the step is enabled. (The plain name is that of the step itself.) -/
theorem envFaultStep_exactly : Obligations.EnvFaultStep := by
  intro s cause
  rw [← mem_envCauses_iff]
  refine ⟨fun hc hm => ?_, envFaultStep_disabled⟩
  rw [envFaultStep_enabled hc hm, faultEntry_of_transmitting hc]

/-! ### The one way out of Faulted -/

@[simp] theorem State.startFrame_faultCause (s : State) : s.startFrame.faultCause = s.faultCause := by
  rw [startFrame_eq]

@[simp] theorem State.storeBytes_faultCause (s : State) (a : Nat) (bytes : List Byte) :
    (s.storeBytes a bytes).faultCause = s.faultCause := by
  rw [storeBytes_eq]

/-- An instruction keeps FAULT_CAUSE in Faulted: the two faults an access can raise are raised from the other states. -/
theorem exec_keeps_faultCause {i : Instr} {s t : State} (hi : ∀ w, i ≠ .wrCmd w) (h : exec i s = .next t)
    (hc : s.chan = .faulted) : t.faultCause = s.faultCause := by
  rcases exec_next hi h with rfl | ⟨v, rfl⟩ | ⟨_, rfl⟩ | ⟨v, rfl, _⟩ | ⟨d, _, rfl⟩ | ⟨d, nb, _, _, rfl⟩ | ⟨d, _, rfl⟩ |
    ⟨d, _, rfl⟩ | ⟨d, _, _, rfl⟩ | ⟨d, _, _, htx, _⟩ | ⟨d, _, _, _, _, rfl⟩ | ⟨_, _, _, rfl⟩ |
    ⟨_, _, _, _, rfl⟩ | ⟨_, hidle, _⟩ | ⟨_, _, _, rfl⟩
  -- the two fault entries: BUILD's (14th) and BUSY_VIOLATION (10th)
  on_goal 14 => simp [hc] at hidle
  on_goal 10 => simp [hc] at htx
  all_goals simp

/-- In Faulted every step but reset keeps FAULT_CAUSE. -/
theorem step_keeps_faultCause {s t : State} {e : Event} {rest : List Event} (hs : s.schedule = e :: rest)
    (h : step s = .next t) (hc : s.chan = .faulted) (he : e ≠ .reset) : t.faultCause = s.faultCause := by
  rcases step_all hs h with ⟨i, _, hi, h⟩ | ⟨acc, r, _, _, rfl⟩ | ⟨a, v, _, rfl⟩ | ⟨a, v, _, rfl⟩ |
    ⟨a, w, _, _, rfl⟩ | ⟨d, n, _, _, rfl⟩ | ⟨g, _, h⟩ | ⟨c, _, htx, _⟩ | ⟨hreset, _⟩ | ⟨m, _, rfl⟩
  · exact exec_keeps_faultCause (s := s.withSchedule rest) hi h hc
  · simp
  · simp
  · simp
  · simp
  · simp
  · have htx : s.chan = .transmitting := (engineStep_next h).1
    simp [hc] at htx
  · simp [hc] at htx
  · exact absurd hreset he
  · simp

/-- Settles O42: no transition of R281 but reset starts in Faulted, FAULT follows STATE, and what is emitted is emitted
in Transmitting. -/
theorem faultedIsLeftOnlyByReset : Obligations.FaultedIsLeftOnlyByReset := by
  intro s t e rest hinv hc hs h he
  have hchan : t.chan = .faulted := by
    by_contra hne
    have := stateTransitionsExactly s t e rest hinv hs h (by rwa [hc])
    simp [hc, he] at this
  refine ⟨hchan, (stepKeepsTheInvariant s t hinv h).faultIffFaulted.2 hchan, step_keeps_faultCause hs h hc he, ?_⟩
  refine (onlyEnginesAndFaultsEmit s t e rest hs h he).resolve_right fun hemits => ?_
  simp [hc] at hemits

end Sys2Proof.Machine
end

section
/-! PROOF. What a run cannot forget (60_exceptions.md R328, 00_scope.md R16): but for reset, every step keeps a WSE fault
and the model faults, and leaves alone what resets have put away; and how the interrupt can be cleared (R311, R312). -/

namespace Sys2Proof.Machine

/-! ### The record of a run -/

/-- The record of what has gone wrong in a run goes on from `s` to `t` with no reset between: nothing of it is lost. -/
structure KeepsRecord (s t : State) : Prop where
  fault : s.fault = true → t.fault = true
  modelFaults : s.modelFaults ⊆ t.modelFaults
  past : t.past = s.past

/-- What leaves the three fields of the record alone keeps the record. -/
theorem KeepsRecord.of_eq {s t : State} (hf : t.fault = s.fault) (hm : t.modelFaults = s.modelFaults)
    (hp : t.past = s.past) : KeepsRecord s t :=
  ⟨fun h => hf.trans h, fun _ h => hm ▸ h, hp⟩

/-- R306: fault entry adds FAULT to the record. -/
theorem KeepsRecord.faultEntry (s : State) (c : FaultCause) : KeepsRecord s (s.faultEntry c) :=
  ⟨fun _ => rfl, fun _ h => h, rfl⟩

@[simp] theorem State.startFrame_fault (s : State) : s.startFrame.fault = s.fault := by
  rw [startFrame_eq]

@[simp] theorem State.startFrame_modelFaults (s : State) : s.startFrame.modelFaults = s.modelFaults := by
  rw [startFrame_eq]

@[simp] theorem State.startFrame_past (s : State) : s.startFrame.past = s.past := by
  rw [startFrame_eq]

@[simp] theorem State.storeBytes_fault (s : State) (a : Nat) (bytes : List Byte) :
    (s.storeBytes a bytes).fault = s.fault := by
  rw [storeBytes_eq]

@[simp] theorem State.storeBytes_past (s : State) (a : Nat) (bytes : List Byte) :
    (s.storeBytes a bytes).past = s.past := by
  rw [storeBytes_eq]

@[simp] theorem State.endUnit_fault (s : State) : s.endUnit.fault = s.fault := by
  rcases endUnit_cases s with ⟨_, h⟩ | ⟨_, h⟩ <;> simp [h]

/-- What an engine step leaves alone: it moves the line, the trace and the fields of STATUS that tell of the frame. -/
theorem engineStep_eq {g : Nat} {s t : State} (h : engineStep g s = .next t) : t = { s with
    chan := t.chan, busy := t.busy, done := t.done, fault := t.fault, faultCause := t.faultCause
    txIndex := t.txIndex, line := t.line, trace := t.trace } := by
  obtain ⟨_, h⟩ := engineStep_next h
  rcases h with ⟨_, _, rfl⟩ | ⟨_, _, _, rfl⟩ | ⟨_, _, _, rfl⟩ | ⟨_, _, d, _, rfl⟩
  on_goal 3 => rfl
  -- the three units sent, each the frame's last or not
  all_goals
    unfold State.endUnit
    split <;> rfl

/-- An engine step clears no fault: its one fault entry sets FAULT. -/
theorem engineStep_keepsRecord {g : Nat} {s t : State} (h : engineStep g s = .next t) : KeepsRecord s t := by
  refine ⟨fun hf => ?_, fun _ hm => ?_, ?_⟩
  · obtain ⟨_, h⟩ := engineStep_next h
    rcases h with ⟨_, _, rfl⟩ | ⟨_, _, _, rfl⟩ | ⟨_, _, _, rfl⟩ | ⟨_, _, d, _, rfl⟩ <;> simp [hf]
  · rw [engineStep_eq h]
    exact hm
  · rw [engineStep_eq h]

/-- An instruction keeps the record: it reaches FAULT by fault entry alone, and the model faults not at all. -/
theorem exec_keepsRecord {i : Instr} {s t : State} (hi : ∀ w, i ≠ .wrCmd w) (h : exec i s = .next t) :
    KeepsRecord s t := by
  rcases exec_next hi h with rfl | ⟨v, rfl⟩ | ⟨_, rfl⟩ | ⟨v, rfl, _⟩ | ⟨d, _, rfl⟩ | ⟨d, nb, _, _, rfl⟩ | ⟨d, _, rfl⟩ |
    ⟨d, _, rfl⟩ | ⟨d, _, _, rfl⟩ | ⟨d, _, _, _, _, rfl⟩ | ⟨d, _, _, _, _, rfl⟩ | ⟨_, _, _, rfl⟩ |
    ⟨_, _, _, _, rfl⟩ | ⟨_, _, _, _, rfl⟩ | ⟨_, _, _, rfl⟩
  -- the two fault entries
  on_goal 14 => exact .faultEntry s _
  on_goal 10 => exact .faultEntry s _
  all_goals exact .of_eq (by simp) (by simp) (by simp)

theorem mem_recordModelFault_of_mem {f : ModelFault} {s : State} (g : ModelFault) (h : f ∈ s.modelFaults) :
    f ∈ (s.recordModelFault g).modelFaults := by
  by_cases hg : g ∈ s.modelFaults
  · rwa [State.recordModelFault_modelFaults, if_pos hg]
  · rw [State.recordModelFault_modelFaults, if_neg hg]
    exact List.mem_append_left _ h

/-- R216, R328: a host store may record a model fault, and loses none. -/
theorem storeBytes_keepsRecord (s : State) (a : Nat) (bytes : List Byte) : KeepsRecord s (s.storeBytes a bytes) := by
  refine ⟨by simp, fun f hf => ?_, by simp⟩
  unfold State.storeBytes
  dsimp only
  split
  · exact mem_recordModelFault_of_mem _ hf
  · exact hf

/-- Every step but reset keeps the record. -/
theorem step_keepsRecord {s t : State} {e : Event} {rest : List Event} (hs : s.schedule = e :: rest)
    (h : step s = .next t) (he : e ≠ .reset) : KeepsRecord s t := by
  rcases step_all hs h with ⟨i, _, hi, h⟩ | ⟨acc, r, _, _, rfl⟩ | ⟨a, v, _, rfl⟩ | ⟨a, v, _, rfl⟩ |
    ⟨a, w, _, _, rfl⟩ | ⟨d, n, _, _, rfl⟩ | ⟨g, _, h⟩ | ⟨c, _, _, _, rfl⟩ | ⟨hreset, _⟩ | ⟨m, _, rfl⟩
  -- the record does not read the schedule
  · exact { exec_keepsRecord hi h with }
  · exact .of_eq rfl rfl rfl
  · exact .of_eq rfl rfl rfl
  · exact { storeBytes_keepsRecord (s.withSchedule rest) _ _ with }
  · exact { storeBytes_keepsRecord (s.withSchedule rest) _ _ with }
  · exact .of_eq rfl rfl rfl
  · exact { engineStep_keepsRecord h with }
  · exact { KeepsRecord.faultEntry (s.withSchedule rest) c with }
  · exact absurd hreset he
  · exact .of_eq rfl rfl rfl

/-- A step keeps the record, or is reset, which puts it away (log 10). -/
theorem step_keepsRecord_or_reset {s t : State} (h : step s = .next t) :
    KeepsRecord s t ∨ ∃ rest, t = (s.withSchedule rest).blockReset := by
  obtain ⟨_, e, rest, hs, hrun⟩ := step_next h
  by_cases he : e = .reset
  · subst he
    exact .inr ⟨rest, (Host.Outcome.next.inj hrun).symm⟩
  · exact .inl (step_keepsRecord hs h he)

/-- What a reset puts away. -/
theorem blockReset_past (s : State) : s.blockReset.past = s.past ++ [⟨s.markAbort.trace, s.fault, s.modelFaults⟩] := rfl

/-- A model fault is in the record: in the set as it stands, or put away by a reset. -/
def Recorded (f : ModelFault) (s : State) : Prop :=
  f ∈ s.modelFaults ∨ ∃ p ∈ s.past, f ∈ p.modelFaults

theorem KeepsRecord.recorded {s t : State} (h : KeepsRecord s t) {f : ModelFault} (hf : Recorded f s) :
    Recorded f t := by
  refine hf.imp (fun hm => h.modelFaults hm) fun hp => ?_
  rwa [h.past]

theorem Recorded.blockReset {s : State} {f : ModelFault} (hf : Recorded f s) : Recorded f s.blockReset := by
  right
  rw [blockReset_past]
  rcases hf with hm | ⟨p, hp, hm⟩
  · exact ⟨_, List.mem_append_right _ (List.mem_singleton.2 rfl), hm⟩
  · exact ⟨p, List.mem_append_left _ hp, hm⟩

theorem KeepsRecord.goodSoFar {s t : State} (h : KeepsRecord s t) (hr : s.refusedMark = none) (ht : GoodSoFar t) :
    GoodSoFar s := by
  obtain ⟨hf, hm, _, hp⟩ := ht
  refine ⟨Bool.eq_false_iff.2 fun hs => ?_, List.subset_nil.1 (hm ▸ h.modelFaults), hr, h.past ▸ hp⟩
  simp [h.fault hs] at hf

theorem goodSoFar_of_blockReset {s : State} (hr : s.refusedMark = none) (ht : GoodSoFar s.blockReset) :
    GoodSoFar s := by
  obtain ⟨_, _, _, hp⟩ := ht
  rw [blockReset_past] at hp
  obtain ⟨hf, hm⟩ := hp _ (List.mem_append_right _ (List.mem_singleton.2 rfl))
  exact ⟨hf, hm, hr, fun e he => hp e (List.mem_append_left _ he)⟩

/-- Settles O50: a reset puts the record away, and any other step keeps it. -/
theorem modelFaultsAreNeverLost : Obligations.ModelFaultsAreNeverLost := by
  refine ⟨fun s t f h hf => ?_, fun s t h ht => ?_⟩
  · rcases step_keepsRecord_or_reset h with hkeeps | ⟨rest, rfl⟩
    · exact hkeeps.recorded hf
    · exact Recorded.blockReset (s := s.withSchedule rest) hf
  · obtain ⟨hr, _⟩ := step_next h
    rcases step_keepsRecord_or_reset h with hkeeps | ⟨rest, rfl⟩
    · exact hkeeps.goodSoFar hr ht
    · exact goodSoFar_of_blockReset (s := s.withSchedule rest) hr ht

/-! ### The interrupt -/

/-- R311. -/
theorem irq_iff (s : State) : s.irq = true ↔ s.irqEn = true ∧ (s.done = true ∨ s.fault = true) := by
  simp [State.irq]

/-- R313. -/
theorem irqLine_iff (s : State) : s.irqLine = some Config.irqRoute ↔ s.irq = true := by
  simp [State.irqLine]

/-- Settles O37: the level, and the route it drives. -/
theorem interruptLevel : Obligations.InterruptLevel := fun s => ⟨irq_iff s, irqLine_iff s⟩

@[simp] theorem State.startFrame_irqEn (s : State) : s.startFrame.irqEn = s.irqEn := by
  rw [startFrame_eq]

@[simp] theorem State.storeBytes_irqEn (s : State) (a : Nat) (bytes : List Byte) :
    (s.storeBytes a bytes).irqEn = s.irqEn := by
  rw [storeBytes_eq]

/-- R272: a CTRL write takes IRQ_EN from bit 2 in every state. -/
theorem exec_wrCtrl_irqEn (data : Word) (s : State) : ∃ t, exec (.wrCtrl data) s = .next t ∧ t.irqEn = data.getLsbD 2 := by
  by_cases h : s.chan ≠ .idle ∨ ctrlBackend data = none
  · exact ⟨_, exec_wrCtrl_locked h, rfl⟩
  · obtain ⟨hc, hn⟩ := not_or.1 h
    obtain ⟨nb, hn⟩ := Option.ne_none_iff_exists'.1 hn
    exact ⟨_, exec_wrCtrl_idle (not_not.1 hc) hn, rfl⟩

/-- Of the instructions only a CTRL write reaches IRQ_EN. -/
theorem exec_irqEn {i : Instr} {s t : State} (hi : ∀ w, i ≠ .wrCmd w) (h : exec i s = .next t) :
    t.irqEn = s.irqEn ∨ ∃ data, i = .wrCtrl data ∧ t.irqEn = data.getLsbD 2 := by
  rcases exec_next hi h with rfl | ⟨v, rfl⟩ | ⟨_, rfl⟩ | ⟨v, rfl, _⟩ | ⟨d, hd, rfl⟩ | ⟨d, nb, hd, _, rfl⟩ | ⟨d, _, rfl⟩ |
    ⟨d, _, rfl⟩ | ⟨d, _, _, rfl⟩ | ⟨d, _, _, _, _, rfl⟩ | ⟨d, _, _, _, _, rfl⟩ | ⟨_, _, _, rfl⟩ |
    ⟨_, _, _, _, rfl⟩ | ⟨_, _, _, _, rfl⟩ | ⟨_, _, _, rfl⟩
  -- the CTRL write, outside Idle and in it
  on_goal 6 => exact .inr ⟨d, hd, rfl⟩
  on_goal 5 => exact .inr ⟨d, hd, rfl⟩
  all_goals left; simp

/-- Of the steps only reset and a CTRL write reach IRQ_EN. -/
theorem step_irqEn {s t : State} {e : Event} {rest : List Event} (hs : s.schedule = e :: rest) (h : step s = .next t) :
    t.irqEn = s.irqEn ∨ e = .reset ∨ ∃ data, performedBy e = some (.wrCtrl data) ∧ t.irqEn = data.getLsbD 2 := by
  rcases step_all hs h with ⟨i, hp, hi, h⟩ | ⟨acc, r, _, _, rfl⟩ | ⟨a, v, _, rfl⟩ | ⟨a, v, _, rfl⟩ |
    ⟨a, w, _, _, rfl⟩ | ⟨d, n, _, _, rfl⟩ | ⟨g, _, h⟩ | ⟨c, _, _, _, rfl⟩ | ⟨he, _⟩ | ⟨m, _, rfl⟩
  · rw [hp]
    exact (exec_irqEn hi h).imp_right fun ⟨data, hd, ht⟩ => .inr ⟨data, congrArg some hd, ht⟩
  · left; simp
  · left; simp
  · left; simp
  · left; simp
  · left; simp
  · left
    rw [engineStep_eq h]
    rfl
  · left; simp
  · exact .inr (.inl he)
  · left; simp

/-- R312: FAULT being sticky, the interrupt of a fault goes only with IRQ_EN. -/
theorem irqEn_of_fault_irq_cleared {s t : State} {e : Event} {rest : List Event} (hs : s.schedule = e :: rest)
    (h : step s = .next t) (he : e ≠ .reset) (hf : s.fault = true) (ht : t.irq = false) : t.irqEn = false := by
  have hft : t.fault = true := (step_keepsRecord hs h he).fault hf
  simpa [State.irq, hft] using ht

/-- R312: masking. -/
theorem irq_of_masked {s : State} (h : s.irqEn = false) : s.irq = false := by
  simp [State.irq, h]

/-- R280: START accepted leaves DONE and FAULT so that no completion interrupt stands. -/
theorem startFrame_irq {s : State} (hf : s.fault = false) : s.startFrame.irq = false := by
  refine irq_eq_false ?_ (by simp [hf])
  rw [startFrame_eq]

/-- Settles O38, clause by clause. -/
theorem interruptClearing : Obligations.InterruptClearing := by
  refine ⟨fun s t e rest hs h hirq hf ht => ?_, fun s data hd => ?_, fun s hf => ?_, fun s t hf h htx hidle => ?_,
    fun _ _ => rfl⟩
  · refine or_iff_not_imp_left.2 fun he => ?_
    have hen : s.irqEn = true := ((irq_iff s).1 hirq).1
    have hmask : t.irqEn = false := irqEn_of_fault_irq_cleared hs h he hf ht
    rcases step_irqEn hs h with hkeep | hreset | ⟨data, hp, hd⟩
    · simp [hkeep, hen] at hmask
    · exact absurd hreset he
    · exact ⟨data, hp, hd.symm.trans hmask⟩
  · obtain ⟨t, h, ht⟩ := exec_wrCtrl_irqEn data s
    exact ⟨t, h, irq_of_masked (ht.trans hd)⟩
  · exact ⟨_, exec_wrStatus _ s, irq_eq_false rfl hf⟩
  · rcases exec_changes_chan (by simp) h (by simp [htx, hidle]) with ⟨_, _, _, rfl⟩ | ⟨hc, _⟩ | ⟨hbuild, _⟩
    · exact startFrame_irq hf
    · simp [hidle] at hc
    · cases hbuild

end Sys2Proof.Machine
end

section
/-! PROOF. Rejection: which accesses are rejected (60_exceptions.md R305), and the order of the checks inside one
access (R310). -/

namespace Sys2Proof.Machine

/-- The step of a scheduled access that performs `i`. -/
theorem step_performed {s : State} {e : Event} {rest : List Event} {i : Instr} (hr : s.refusedMark = none)
    (hs : s.schedule = e :: rest) (hp : performedBy e = some i) : step s = exec i (s.withSchedule rest) := by
  rw [step_cons hr hs]
  by_cases he : ∃ acc, e = .bus acc
  · obtain ⟨acc, rfl⟩ := he
    rcases runEvent_bus s (s.withSchedule rest) acc with ⟨j, hj, h⟩ | ⟨hn, _⟩
    · rw [h, Option.some.inj (hp.symm.trans hj)]
    · simp [hp] at hn
  · simp [performedBy_eq_none (not_exists.1 he)] at hp

/-- R305: what the list names is rejected. -/
theorem Rejects.exec_eq {i : Instr} {s : State} (h : Rejects i s) : exec i s = .next s.reject := by
  rcases h with ⟨rfl, hc⟩ | ⟨rfl, hb, hv⟩ | ⟨rfl, hc⟩ | ⟨⟨data, rfl⟩, hbc⟩ | ⟨op, rfl⟩ | ⟨op, rfl⟩
  · exact exec_start_outside_idle hc
  · by_cases hc : s.chan = .idle
    · exact exec_start_without_frame hc hb hv
    · exact exec_start_outside_idle hc
  · exact exec_build_rejected hc
  · exact execWrTxdata_rejected hbc data
  · rfl
  · rfl

@[simp] theorem State.startFrame_cmdErr (s : State) : s.startFrame.cmdErr = s.cmdErr := by
  rw [startFrame_eq]

/-- R305: what the list does not name never sets CMD_ERR. -/
theorem exec_cmdErr {i : Instr} {s t : State} (hi : ∀ w, i ≠ .wrCmd w) (h : exec i s = .next t) (hn : ¬Rejects i s)
    (ht : t.cmdErr = true) : s.cmdErr = true := by
  rcases exec_next hi h with rfl | ⟨v, rfl⟩ | ⟨hrej, _⟩ | ⟨v, rfl, _⟩ | ⟨d, _, rfl⟩ | ⟨d, nb, _, _, rfl⟩ | ⟨d, _, rfl⟩ |
    ⟨d, _, rfl⟩ | ⟨d, _, _, rfl⟩ | ⟨d, _, _, _, _, rfl⟩ | ⟨d, _, _, _, _, rfl⟩ | ⟨_, _, _, rfl⟩ |
    ⟨_, _, _, _, rfl⟩ | ⟨_, _, _, _, rfl⟩ | ⟨_, _, _, rfl⟩
  -- the STATUS write, which may clear CMD_ERR (7th), and the rejection (3rd)
  on_goal 7 => exact (Bool.and_eq_true_iff.1 ht).1
  on_goal 3 => exact absurd hrej hn
  all_goals simpa using ht

/-- Settles O44, by whether the list names the access. -/
theorem rejectionExactly : Obligations.RejectionExactly := by
  intro e i rest s hr hs hp
  rw [step_performed hr hs hp]
  exact ⟨fun h => Rejects.exec_eq (s := s.withSchedule rest) h,
    fun hn t h ht => exec_cmdErr (s := s.withSchedule rest) (performedBy_ne_wrCmd hp) h hn ht⟩

/-- Settles O43, access by access: the checks of STATE and BACKEND reject before the one of BUSY faults. -/
theorem checkOrderInsideAnAccess : Obligations.CheckOrderInsideAnAccess := by
  refine fun s data => ⟨fun hc _ => exec_start_outside_idle hc,
    fun hc => ⟨exec_start_outside_idle (by simp [hc]), exec_build_rejected (by simp [hc]),
      execWrTxdata_rejected (by simp [hc]) data⟩,
    fun _ hb _ => execWrTxdata_rejected (fun h => hb h.1) data,
    fun hc hb hy => ⟨_, execWrTxdata_busy hb hc hy data, rfl, rfl⟩,
    fun hc _ _ => exec_build_rejected (by simp [hc])⟩

end Sys2Proof.Machine
end

section
/-! PROOF. A fault that cuts a frame is precise at a unit boundary (60_exceptions.md R307), on each transport: the units
emitted before it (44 R241, 43 R212, 42 R181), then the step that takes the fault. -/

namespace Sys2Proof.Machine

/-- Fault entry of a step that cuts a frame in flight (R306). -/
theorem faultEntry_withSchedule {s : State} (hc : s.chan = .transmitting) (rest : List Event) (c : FaultCause) :
    (s.withSchedule rest).faultEntry c = { s with
      schedule := rest, chan := .faulted, fault := true, faultCause := c, busy := false, line := .low
      trace := s.trace ++ [.abort] } :=
  faultEntry_of_transmitting (s := s.withSchedule rest) hc c

theorem transferAbort_mem_envCauses (k : Backend) : .transferAbort ∈ envCauses k :=
  (mem_envCauses_iff _ k).2 (.inl rfl)

/-- What cuts a DMA frame whose next byte is at address `a`: an Env fault of either cause, or the engine's read if `a`
is not admitted. -/
def CutsDma (spans : List Span) (a : Nat) (e : Event) (c : FaultCause) : Prop :=
  e = .envFault c ∧ (c = .bufferOverrun ∨ c = .transferAbort) ∨
    (∃ gap, e = .engine gap) ∧ c = .transferAbort ∧ dmaAdmits spans a 1 = false

/-- The step that cuts a DMA frame in flight. -/
theorem CutsDma.step_eq {s : State} {e : Event} {c : FaultCause} {rest : List Event}
    (h : CutsDma s.dmaMap s.dmaNext e c) (hr : s.refusedMark = none) (hc : s.chan = .transmitting)
    (hb : s.backend = .dma) (hx : s.txIndex.toNat < 33) (hs : s.schedule = e :: rest) :
    step s = .next ((s.withSchedule rest).faultEntry c) := by
  rcases h with ⟨rfl, hcause⟩ | ⟨⟨g, rfl⟩, rfl, ha⟩
  · exact step_env hr hs hc ((mem_envCauses_iff _ _).2 (hcause.symm.imp_right fun h => ⟨hb, h⟩))
  · rw [step_engine hr hs, engineStep_dma (s := s.withSchedule rest) hb hc]
    exact dmaStep_aborted (s := s.withSchedule rest) hx ha

/-- The step of a TXDATA write that is accepted (R184). -/
theorem step_txdata_latches {s : State} {v : Byte} {rest : List Event} (hr : s.refusedMark = none)
    (hc : s.chan = .transmitting) (hb : s.backend = .bbs) (hy : s.busy = false)
    (hs : s.schedule = wr 0x014#12 (v.zeroExtend 32) :: rest) : step s = .next { s with
      schedule := rest, shByte := v, busy := true, bytesAccepted := s.bytesAccepted + 1 } := by
  rw [step_txdata hr hs, execWrTxdata_latched (s := s.withSchedule rest) hb hc hy, txByte_zeroExtend]
  rfl

/-- The step of a TXDATA write that is a BUSY_VIOLATION (R184). -/
theorem step_txdata_busy {s : State} {v : Byte} {rest : List Event} (hr : s.refusedMark = none)
    (hc : s.chan = .transmitting) (hb : s.backend = .bbs) (hy : s.busy = true)
    (hs : s.schedule = wr 0x014#12 (v.zeroExtend 32) :: rest) :
    step s = .next ((s.withSchedule rest).faultEntry .busyViolation) :=
  (step_txdata hr hs).trans (execWrTxdata_busy (s := s.withSchedule rest) hb hc hy _)

/-- A BBS frame from START until all of `bytes` are out, at least one more byte to come. -/
theorem bbs_units_from_start {s : State} {bytes : List Byte} {gaps : List Nat} {rest : List Event}
    (hr : s.refusedMark = none) (hc : s.chan = .idle) (hb : s.backend = .bbs) (hn : bytes.length ≤ 32)
    (hg : gaps.length = bytes.length) (hs : s.schedule = cmd .start :: (bbsFeed bytes gaps ++ rest)) :
    Sys2Proof.core.run (2 * bytes.length + 1) s = .next { s with
      schedule := rest, chan := .transmitting, busy := false, done := false, txIndex := BitVec.ofNat 6 bytes.length
      line := if bytes = [] then s.line else .low, shByte := bytes.getLastD s.shByte, bytesAccepted := bytes.length
      frameBackend := .bbs
      trace := s.trace ++ (List.zip bytes gaps).flatMap fun p => .seg .low p.2 :: serBits p.1 } := by
  have hstart := (step_start hr hc (absurd hb) hs).trans (congrArg _ (startFrame_bbs hb))
  let t := (s.withSchedule (bbsFeed bytes gaps ++ rest)).openFrame.setBusy false
  have hunits := bbs_units rest bytes gaps t hr rfl hb rfl hg (by simpa [t] using Nat.lt_succ_of_le hn) rfl
  rw [run_step _ hstart, hunits]
  simp [t, State.openFrame, State.setBusy, State.withSchedule, hb]

/-- Settles O60, transport by transport: the frame opens, its whole units are emitted, and a step takes the fault. -/
theorem faultIsPreciseAtUnitBoundary : Obligations.FaultIsPreciseAtUnitBoundary := by
  refine ⟨fun s c gaps rest hr hc hb hv hf hn hs => ?_, fun s gaps e c rest hr hc hb hv hn ha he hs => ?_,
    fun s bytes gaps v w e c rest hr hc hb hn hg he hs => ?_, fun s bytes gaps rest hr hc hb hn hg hs => ?_⟩
  · let t := (s.withSchedule (gaps.map .engine ++ .envFault .transferAbort :: rest)).openFrame
    have hstart : step s = .next t := step_start_pg hr hc hb hv hs
    have hin : t.txIndex.toNat + gaps.length < 25 := by simpa [t] using Nat.lt_succ_of_le hn
    have hunits := pg_units c (.envFault .transferAbort :: rest) gaps t hr rfl hb hf hin rfl
    have hcut := run_last _ hunits (step_env hr rfl rfl (transferAbort_mem_envCauses _))
    rw [run_step _ hstart, hcut, faultEntry_withSchedule rfl]
    simp [t, State.openFrame, State.withSchedule, hb]
  · let t := (s.withSchedule (gaps.map .engine ++ e :: rest)).openFrame.setBusy true
    have hstart : step s = .next t := (step_start hr hc (fun _ => hv) hs).trans (congrArg _ (startFrame_dma hb))
    have hnext : t.dmaNext = s.dmaAddr.toNat := rfl
    have hlen : (BitVec.ofNat 6 gaps.length).toNat = gaps.length := Nat.mod_eq_of_lt (by omega)
    have hin : t.txIndex.toNat + gaps.length < 33 := by simpa [t] using Nat.lt_succ_of_le hn
    have hunits := dma_units (e :: rest) gaps t hr rfl hb (by rwa [hnext]) hin rfl
    have hcuts : CutsDma s.dmaMap (s.dmaAddr.toNat + gaps.length) e c := he
    have hcut := run_last _ hunits (CutsDma.step_eq (by simpa [State.dmaNext, t, hlen] using hcuts) hr rfl hb
      (by simpa [t, hlen] using hin) rfl)
    rw [run_step _ hstart, hcut, faultEntry_withSchedule rfl, hnext]
    simp [t, State.openFrame, State.setBusy, State.withSchedule, hb]
  · have hunits := bbs_units_from_start hr hc hb hn hg hs
    have hbyte := run_last _ hunits (step_txdata_latches hr rfl hb rfl rfl)
    rcases he with ⟨rfl, rfl⟩ | ⟨rfl, rfl⟩
    · rw [run_last _ hbyte (step_env hr rfl rfl (transferAbort_mem_envCauses _)), faultEntry_withSchedule rfl]
    · rw [run_last _ hbyte (step_txdata_busy hr rfl hb rfl rfl), faultEntry_withSchedule rfl]
  · have hunits := bbs_units_from_start hr hc hb hn hg hs
    rw [run_last _ hunits (step_env hr rfl rfl (transferAbort_mem_envCauses _)), faultEntry_withSchedule rfl]

end Sys2Proof.Machine
end

section
/-! PROOF. Reset (70_reset_and_hazards.md): what the reset step keeps and puts away (R340 to R342). -/

namespace Sys2Proof.Machine

theorem markAbort_trace_of_transmitting {s : State} (hc : s.chan = .transmitting) :
    s.markAbort.trace = s.trace ++ [.abort] :=
  if_pos hc

theorem markAbort_trace_of_not_transmitting {s : State} (hc : s.chan ≠ .transmitting) : s.markAbort.trace = s.trace :=
  if_neg hc

/-- Settles O34: the trace put away is the one the abort marker leaves, with X if a frame was in flight (R342) and as it
was if not. -/
theorem resetStopsTheFrame : Obligations.ResetStopsTheFrame := by
  intro s
  refine ⟨s.blockReset, rfl, rfl, rfl, rfl, rfl, rfl, rfl, rfl, rfl, fun hc => ?_, fun hc => ?_⟩
  · rw [blockReset_past, markAbort_trace_of_transmitting hc]
  · rw [blockReset_past, markAbort_trace_of_not_transmitting hc]

end Sys2Proof.Machine
end
